-- ==== Sys2Proof/Word.lean ====
section
/-! DEFINITION. The two widths the spec gives the machine: 8-bit values and 16-bit values (00_scope.md rule R4). -/

namespace Sys2Proof

/-- An 8-bit value: a register, a memory cell, an opcode byte (R4, R11). -/
abbrev Byte := BitVec 8

/-- A 16-bit value: `PC`, `SP`, a register pair, an address (R4, R15, R16). -/
abbrev Word := BitVec 16

end Sys2Proof
end

