-- ==== Sys2Proof/Syntax.lean ====
section
/-! DEFINITION. The syntax: operand selectors (30_encoding.md rules R83 to R88) and `Instr`, one constructor per row of
spec/opcode_table.json (the rows with an immediate stand first, because Lean's compiler bounds the tag of a constructor that
carries data). A constructor's argument is the row's immediate (R81, R89); STOP has none, because its second byte
is never fetched (47_system.md rule R262). `LAWS.json` gives each constructor's mnemonic as the table spells it. -/

namespace Sys2Proof

/-- The seven 8-bit registers an operand field can select (R11, R32). -/
inductive Reg8 where
  | b | c | d | e | h | l | a
deriving DecidableEq, Repr

/-- The operand a 3-bit `r8` field selects: a register, or the memory byte at `HL` (R83). -/
inductive Loc where
  | reg (r : Reg8)
  | indHl
deriving DecidableEq, Repr

/-- `rp`, the 16-bit operand of loads and arithmetic (R84). -/
inductive Rp where
  | bc | de | hl | sp
deriving DecidableEq, Repr

/-- `rp2`, the 16-bit operand of PUSH and POP (R85). -/
inductive Rp2 where
  | bc | de | hl | af
deriving DecidableEq, Repr

/-- `cc`, a condition (R86). -/
inductive Cond where
  | nz | z | nc | c
deriving DecidableEq, Repr

/-- `alu`, the 8-bit operation on `A` (R87). -/
inductive Alu where
  | add | adc | sub | sbc | and | xor | or | cp
deriving DecidableEq, Repr

/-- `rot`, the rotate or shift of the CB table (R88). -/
inductive Rot where
  | rlc | rrc | rl | rr | sla | sra | swap | srl
deriving DecidableEq, Repr

/-- The instruction set: the unprefixed table and the CB table (R90 to R92, R100).
`prefixCb` is the row of the byte 0xCB, which is not an instruction by itself (R100); `illegalD3` and its like are the eleven
unassigned bytes (R93). -/
inductive Instr where
  -- rows of the unprefixed table that carry an immediate (R81)
  | ldBcD16 (d : Word)
  | ldBD8 (d : Byte)
  | ldIndA16Sp (a : Word)
  | ldCD8 (d : Byte)
  | ldDeD16 (d : Word)
  | ldDD8 (d : Byte)
  | jrE8 (e : Byte)
  | ldED8 (d : Byte)
  | jrNzE8 (e : Byte)
  | ldHlD16 (d : Word)
  | ldHD8 (d : Byte)
  | jrZE8 (e : Byte)
  | ldLD8 (d : Byte)
  | jrNcE8 (e : Byte)
  | ldSpD16 (d : Word)
  | ldIndHlD8 (d : Byte)
  | jrCE8 (e : Byte)
  | ldAD8 (d : Byte)
  | jpNzA16 (a : Word)
  | jpA16 (a : Word)
  | callNzA16 (a : Word)
  | addAD8 (d : Byte)
  | jpZA16 (a : Word)
  | callZA16 (a : Word)
  | callA16 (a : Word)
  | adcAD8 (d : Byte)
  | jpNcA16 (a : Word)
  | callNcA16 (a : Word)
  | subD8 (d : Byte)
  | jpCA16 (a : Word)
  | callCA16 (a : Word)
  | sbcAD8 (d : Byte)
  | ldhIndA8A (o : Byte)
  | andD8 (d : Byte)
  | addSpE8 (e : Byte)
  | ldIndA16A (a : Word)
  | xorD8 (d : Byte)
  | ldhAIndA8 (o : Byte)
  | orD8 (d : Byte)
  | ldHlSpE8 (e : Byte)
  | ldAIndA16 (a : Word)
  | cpD8 (d : Byte)
  -- the other rows of the unprefixed table (R91)
  | nop | ldIndBcA | incBc | incB | decB | rlca | addHlBc | ldAIndBc | decBc | incC | decC | rrca | stop
  | ldIndDeA | incDe | incD | decD | rla | addHlDe | ldAIndDe | decDe | incE | decE | rra | ldIndHlIncA | incHl
  | incH | decH | daa | addHlHl | ldAIndHlInc | decHl | incL | decL | cpl | ldIndHlDecA | incSp | incIndHl
  | decIndHl | scf | addHlSp | ldAIndHlDec | decSp | incA | decA | ccf | ldBB | ldBC | ldBD | ldBE | ldBH
  | ldBL | ldBIndHl | ldBA | ldCB | ldCC | ldCD | ldCE | ldCH | ldCL | ldCIndHl | ldCA | ldDB | ldDC | ldDD
  | ldDE | ldDH | ldDL | ldDIndHl | ldDA | ldEB | ldEC | ldED | ldEE | ldEH | ldEL | ldEIndHl | ldEA | ldHB
  | ldHC | ldHD | ldHE | ldHH | ldHL | ldHIndHl | ldHA | ldLB | ldLC | ldLD | ldLE | ldLH | ldLL | ldLIndHl
  | ldLA | ldIndHlB | ldIndHlC | ldIndHlD | ldIndHlE | ldIndHlH | ldIndHlL | halt | ldIndHlA | ldAB | ldAC
  | ldAD | ldAE | ldAH | ldAL | ldAIndHl | ldAA | addAB | addAC | addAD | addAE | addAH | addAL | addAIndHl
  | addAA | adcAB | adcAC | adcAD | adcAE | adcAH | adcAL | adcAIndHl | adcAA | subB | subC | subD | subE
  | subH | subL | subIndHl | subA | sbcAB | sbcAC | sbcAD | sbcAE | sbcAH | sbcAL | sbcAIndHl | sbcAA | andB
  | andC | andD | andE | andH | andL | andIndHl | andA | xorB | xorC | xorD | xorE | xorH | xorL | xorIndHl
  | xorA | orB | orC | orD | orE | orH | orL | orIndHl | orA | cpB | cpC | cpD | cpE | cpH | cpL | cpIndHl
  | cpA | retNz | popBc | pushBc | rst00 | retZ | ret | prefixCb | rst08 | retNc | popDe | illegalD3 | pushDe
  | rst10 | retC | reti | illegalDB | illegalDD | rst18 | popHl | ldIndCA | illegalE3 | illegalE4 | pushHl
  | rst20 | jpHl | illegalEB | illegalEC | illegalED | rst28 | popAf | ldAIndC | di | illegalF4 | pushAf
  | rst30 | ldSpHl | ei | illegalFC | illegalFD | rst38
  -- the CB-prefixed table (R92)
  | rlcB | rlcC | rlcD | rlcE | rlcH | rlcL | rlcIndHl | rlcA | rrcB | rrcC | rrcD | rrcE | rrcH | rrcL
  | rrcIndHl | rrcA | rlB | rlC | rlD | rlE | rlH | rlL | rlIndHl | rlA | rrB | rrC | rrD | rrE | rrH | rrL
  | rrIndHl | rrA | slaB | slaC | slaD | slaE | slaH | slaL | slaIndHl | slaA | sraB | sraC | sraD | sraE
  | sraH | sraL | sraIndHl | sraA | swapB | swapC | swapD | swapE | swapH | swapL | swapIndHl | swapA | srlB
  | srlC | srlD | srlE | srlH | srlL | srlIndHl | srlA | bit0B | bit0C | bit0D | bit0E | bit0H | bit0L
  | bit0IndHl | bit0A | bit1B | bit1C | bit1D | bit1E | bit1H | bit1L | bit1IndHl | bit1A | bit2B | bit2C
  | bit2D | bit2E | bit2H | bit2L | bit2IndHl | bit2A | bit3B | bit3C | bit3D | bit3E | bit3H | bit3L
  | bit3IndHl | bit3A | bit4B | bit4C | bit4D | bit4E | bit4H | bit4L | bit4IndHl | bit4A | bit5B | bit5C
  | bit5D | bit5E | bit5H | bit5L | bit5IndHl | bit5A | bit6B | bit6C | bit6D | bit6E | bit6H | bit6L
  | bit6IndHl | bit6A | bit7B | bit7C | bit7D | bit7E | bit7H | bit7L | bit7IndHl | bit7A | res0B | res0C
  | res0D | res0E | res0H | res0L | res0IndHl | res0A | res1B | res1C | res1D | res1E | res1H | res1L
  | res1IndHl | res1A | res2B | res2C | res2D | res2E | res2H | res2L | res2IndHl | res2A | res3B | res3C
  | res3D | res3E | res3H | res3L | res3IndHl | res3A | res4B | res4C | res4D | res4E | res4H | res4L
  | res4IndHl | res4A | res5B | res5C | res5D | res5E | res5H | res5L | res5IndHl | res5A | res6B | res6C
  | res6D | res6E | res6H | res6L | res6IndHl | res6A | res7B | res7C | res7D | res7E | res7H | res7L
  | res7IndHl | res7A | set0B | set0C | set0D | set0E | set0H | set0L | set0IndHl | set0A | set1B | set1C
  | set1D | set1E | set1H | set1L | set1IndHl | set1A | set2B | set2C | set2D | set2E | set2H | set2L
  | set2IndHl | set2A | set3B | set3C | set3D | set3E | set3H | set3L | set3IndHl | set3A | set4B | set4C
  | set4D | set4E | set4H | set4L | set4IndHl | set4A | set5B | set5C | set5D | set5E | set5H | set5L
  | set5IndHl | set5A | set6B | set6C | set6D | set6E | set6H | set6L | set6IndHl | set6A | set7B | set7C
  | set7D | set7E | set7H | set7L | set7IndHl | set7A
deriving DecidableEq, Repr

end Sys2Proof
end

