-- ==== Sys2Proof/WellFormed.lean ====
section
/-! DEFINITION. Which terms of `Instr` are instructions. Every operand has the width of its field, so no operand value is
ill-formed: what can be wrong is the row itself. -/

namespace Sys2Proof

/-- The row is a whole instruction or a decode error, not the prefix byte alone: "The row `PREFIX CB` ... is not an instruction"
(30_encoding.md rule R100). -/
def Instr.wellFormed (i : Instr) : Bool :=
  match i with
  | .prefixCb => false
  | _ => true

/-- The row is assigned: not one of the eleven unassigned bytes (30_encoding.md rule R93, 47_system.md rule R266). -/
def Instr.assigned (i : Instr) : Bool :=
  match i with
  | .illegalD3 | .illegalDB | .illegalDD | .illegalE3 | .illegalE4 | .illegalEB | .illegalEC | .illegalED | .illegalF4 | .illegalFC | .illegalFD => false
  | _ => true

end Sys2Proof
end

