-- ==== Sys2Proof/Decode.lean ====
section
/-! DEFINITION. Bytes to instructions and back (30_encoding.md). The decoder follows the field structure of rules R82 to
R92; the encoder is written row by row from opcode_table.json, so that each checks the other. Tests/Slice0.lean shows every
row's decoding by the bytes of the table. UNVERIFIED (log 1): the opcode map is the
spec's, which marks it general knowledge. -/

namespace Sys2Proof

/-- Bits 7 to 0 of a 16-bit value. -/
def loByte (w : Word) : Byte := w.extractLsb' 0 8

/-- Bits 15 to 8 of a 16-bit value. -/
def hiByte (w : Word) : Byte := w.extractLsb' 8 8

/-- `hi:lo`, the 16-bit value of two bytes; in memory the low byte is at the lower address (20_memory.md rules R55, R56). -/
def joinBytes (lo hi : Byte) : Word := hi ++ lo

/-- `sext_16` (00_scope.md section 6): sign extension of an 8-bit displacement. -/
def sext16 (e : Byte) : Word := e.signExtend 16

/-! ### Fields of an opcode byte (R82) -/

/-- `x = op[7:6]`. -/
def fieldX (op : Byte) : Fin 4 := (op.extractLsb' 6 2).toFin
/-- `y = op[5:3]`. -/
def fieldY (op : Byte) : Fin 8 := (op.extractLsb' 3 3).toFin
/-- `z = op[2:0]`. -/
def fieldZ (op : Byte) : Fin 8 := (op.extractLsb' 0 3).toFin
/-- `p = op[5:4]`. -/
def fieldP (op : Byte) : Fin 4 := (op.extractLsb' 4 2).toFin
/-- `q = op[3]`. -/
def fieldQ (op : Byte) : Fin 2 := (op.extractLsb' 3 1).toFin

/-! ### Operand tables (R83 to R88) -/

/-- `r8[i]` (R83). -/
def locOf : Fin 8 → Loc
  | 0 => .reg .b | 1 => .reg .c | 2 => .reg .d | 3 => .reg .e
  | 4 => .reg .h | 5 => .reg .l | 6 => .indHl  | 7 => .reg .a

/-- `rp[p]` (R84). -/
def rpOf : Fin 4 → Rp
  | 0 => .bc | 1 => .de | 2 => .hl | 3 => .sp

/-- `rp2[p]` (R85). -/
def rp2Of : Fin 4 → Rp2
  | 0 => .bc | 1 => .de | 2 => .hl | 3 => .af

/-- `cc[i]` (R86), read from the low two bits of the field. -/
def ccOf : Fin 4 → Cond
  | 0 => .nz | 1 => .z | 2 => .nc | 3 => .c

/-- `alu[y]` (R87). -/
def aluOf : Fin 8 → Alu
  | 0 => .add | 1 => .adc | 2 => .sub | 3 => .sbc
  | 4 => .and | 5 => .xor | 6 => .or  | 7 => .cp

/-- `rot[y]` (R88). -/
def rotOf : Fin 8 → Rot
  | 0 => .rlc | 1 => .rrc | 2 => .rl   | 3 => .rr
  | 4 => .sla | 5 => .sra | 6 => .swap | 7 => .srl

/-! ### The rows of one shape, by their operands -/

/-- `LD r8[y],r8[z]`, byte `0x40 + 8*y + z`; the slot `LD (HL),(HL)` is HALT (R91). -/
def Instr.mkLd : Loc → Loc → Instr
  | .reg .b, .reg .b => .ldBB
  | .reg .b, .reg .c => .ldBC
  | .reg .b, .reg .d => .ldBD
  | .reg .b, .reg .e => .ldBE
  | .reg .b, .reg .h => .ldBH
  | .reg .b, .reg .l => .ldBL
  | .reg .b, .indHl => .ldBIndHl
  | .reg .b, .reg .a => .ldBA
  | .reg .c, .reg .b => .ldCB
  | .reg .c, .reg .c => .ldCC
  | .reg .c, .reg .d => .ldCD
  | .reg .c, .reg .e => .ldCE
  | .reg .c, .reg .h => .ldCH
  | .reg .c, .reg .l => .ldCL
  | .reg .c, .indHl => .ldCIndHl
  | .reg .c, .reg .a => .ldCA
  | .reg .d, .reg .b => .ldDB
  | .reg .d, .reg .c => .ldDC
  | .reg .d, .reg .d => .ldDD
  | .reg .d, .reg .e => .ldDE
  | .reg .d, .reg .h => .ldDH
  | .reg .d, .reg .l => .ldDL
  | .reg .d, .indHl => .ldDIndHl
  | .reg .d, .reg .a => .ldDA
  | .reg .e, .reg .b => .ldEB
  | .reg .e, .reg .c => .ldEC
  | .reg .e, .reg .d => .ldED
  | .reg .e, .reg .e => .ldEE
  | .reg .e, .reg .h => .ldEH
  | .reg .e, .reg .l => .ldEL
  | .reg .e, .indHl => .ldEIndHl
  | .reg .e, .reg .a => .ldEA
  | .reg .h, .reg .b => .ldHB
  | .reg .h, .reg .c => .ldHC
  | .reg .h, .reg .d => .ldHD
  | .reg .h, .reg .e => .ldHE
  | .reg .h, .reg .h => .ldHH
  | .reg .h, .reg .l => .ldHL
  | .reg .h, .indHl => .ldHIndHl
  | .reg .h, .reg .a => .ldHA
  | .reg .l, .reg .b => .ldLB
  | .reg .l, .reg .c => .ldLC
  | .reg .l, .reg .d => .ldLD
  | .reg .l, .reg .e => .ldLE
  | .reg .l, .reg .h => .ldLH
  | .reg .l, .reg .l => .ldLL
  | .reg .l, .indHl => .ldLIndHl
  | .reg .l, .reg .a => .ldLA
  | .indHl, .reg .b => .ldIndHlB
  | .indHl, .reg .c => .ldIndHlC
  | .indHl, .reg .d => .ldIndHlD
  | .indHl, .reg .e => .ldIndHlE
  | .indHl, .reg .h => .ldIndHlH
  | .indHl, .reg .l => .ldIndHlL
  | .indHl, .indHl => .halt
  | .indHl, .reg .a => .ldIndHlA
  | .reg .a, .reg .b => .ldAB
  | .reg .a, .reg .c => .ldAC
  | .reg .a, .reg .d => .ldAD
  | .reg .a, .reg .e => .ldAE
  | .reg .a, .reg .h => .ldAH
  | .reg .a, .reg .l => .ldAL
  | .reg .a, .indHl => .ldAIndHl
  | .reg .a, .reg .a => .ldAA

/-- `alu[y] A,r8[z]`, byte `0x80 + 8*y + z` (R91). -/
def Instr.mkAlu : Alu → Loc → Instr
  | .add, .reg .b => .addAB
  | .add, .reg .c => .addAC
  | .add, .reg .d => .addAD
  | .add, .reg .e => .addAE
  | .add, .reg .h => .addAH
  | .add, .reg .l => .addAL
  | .add, .indHl => .addAIndHl
  | .add, .reg .a => .addAA
  | .adc, .reg .b => .adcAB
  | .adc, .reg .c => .adcAC
  | .adc, .reg .d => .adcAD
  | .adc, .reg .e => .adcAE
  | .adc, .reg .h => .adcAH
  | .adc, .reg .l => .adcAL
  | .adc, .indHl => .adcAIndHl
  | .adc, .reg .a => .adcAA
  | .sub, .reg .b => .subB
  | .sub, .reg .c => .subC
  | .sub, .reg .d => .subD
  | .sub, .reg .e => .subE
  | .sub, .reg .h => .subH
  | .sub, .reg .l => .subL
  | .sub, .indHl => .subIndHl
  | .sub, .reg .a => .subA
  | .sbc, .reg .b => .sbcAB
  | .sbc, .reg .c => .sbcAC
  | .sbc, .reg .d => .sbcAD
  | .sbc, .reg .e => .sbcAE
  | .sbc, .reg .h => .sbcAH
  | .sbc, .reg .l => .sbcAL
  | .sbc, .indHl => .sbcAIndHl
  | .sbc, .reg .a => .sbcAA
  | .and, .reg .b => .andB
  | .and, .reg .c => .andC
  | .and, .reg .d => .andD
  | .and, .reg .e => .andE
  | .and, .reg .h => .andH
  | .and, .reg .l => .andL
  | .and, .indHl => .andIndHl
  | .and, .reg .a => .andA
  | .xor, .reg .b => .xorB
  | .xor, .reg .c => .xorC
  | .xor, .reg .d => .xorD
  | .xor, .reg .e => .xorE
  | .xor, .reg .h => .xorH
  | .xor, .reg .l => .xorL
  | .xor, .indHl => .xorIndHl
  | .xor, .reg .a => .xorA
  | .or, .reg .b => .orB
  | .or, .reg .c => .orC
  | .or, .reg .d => .orD
  | .or, .reg .e => .orE
  | .or, .reg .h => .orH
  | .or, .reg .l => .orL
  | .or, .indHl => .orIndHl
  | .or, .reg .a => .orA
  | .cp, .reg .b => .cpB
  | .cp, .reg .c => .cpC
  | .cp, .reg .d => .cpD
  | .cp, .reg .e => .cpE
  | .cp, .reg .h => .cpH
  | .cp, .reg .l => .cpL
  | .cp, .indHl => .cpIndHl
  | .cp, .reg .a => .cpA

/-- `alu[y] A,d8`, byte `0xC6 + 8*y` (R91). -/
def Instr.mkAluImm : Alu → Byte → Instr
  | .add, d => .addAD8 d
  | .adc, d => .adcAD8 d
  | .sub, d => .subD8 d
  | .sbc, d => .sbcAD8 d
  | .and, d => .andD8 d
  | .xor, d => .xorD8 d
  | .or, d => .orD8 d
  | .cp, d => .cpD8 d

/-- `INC r8[y]`, byte `0x04 + 8*y` (R91). -/
def Instr.mkInc : Loc → Instr
  | .reg .b => .incB
  | .reg .c => .incC
  | .reg .d => .incD
  | .reg .e => .incE
  | .reg .h => .incH
  | .reg .l => .incL
  | .indHl => .incIndHl
  | .reg .a => .incA

/-- `DEC r8[y]`, byte `0x05 + 8*y` (R91). -/
def Instr.mkDec : Loc → Instr
  | .reg .b => .decB
  | .reg .c => .decC
  | .reg .d => .decD
  | .reg .e => .decE
  | .reg .h => .decH
  | .reg .l => .decL
  | .indHl => .decIndHl
  | .reg .a => .decA

/-- `LD r8[y],d8`, byte `0x06 + 8*y` (R91). -/
def Instr.mkLdImm : Loc → Byte → Instr
  | .reg .b, d => .ldBD8 d
  | .reg .c, d => .ldCD8 d
  | .reg .d, d => .ldDD8 d
  | .reg .e, d => .ldED8 d
  | .reg .h, d => .ldHD8 d
  | .reg .l, d => .ldLD8 d
  | .indHl, d => .ldIndHlD8 d
  | .reg .a, d => .ldAD8 d

/-- `LD rp[p],d16`, byte `0x01 + 16*p` (R91). -/
def Instr.mkLdRp : Rp → Word → Instr
  | .bc, d => .ldBcD16 d
  | .de, d => .ldDeD16 d
  | .hl, d => .ldHlD16 d
  | .sp, d => .ldSpD16 d

/-- `ADD HL,rp[p]`, byte `0x09 + 16*p` (R91). -/
def Instr.mkAddHl : Rp → Instr
  | .bc => .addHlBc
  | .de => .addHlDe
  | .hl => .addHlHl
  | .sp => .addHlSp

/-- `INC rp[p]`, byte `0x03 + 16*p` (R91). -/
def Instr.mkIncRp : Rp → Instr
  | .bc => .incBc
  | .de => .incDe
  | .hl => .incHl
  | .sp => .incSp

/-- `DEC rp[p]`, byte `0x0B + 16*p` (R91). -/
def Instr.mkDecRp : Rp → Instr
  | .bc => .decBc
  | .de => .decDe
  | .hl => .decHl
  | .sp => .decSp

/-- `POP rp2[p]`, byte `0xC1 + 16*p` (R91). -/
def Instr.mkPop : Rp2 → Instr
  | .bc => .popBc
  | .de => .popDe
  | .hl => .popHl
  | .af => .popAf

/-- `PUSH rp2[p]`, byte `0xC5 + 16*p` (R91). -/
def Instr.mkPush : Rp2 → Instr
  | .bc => .pushBc
  | .de => .pushDe
  | .hl => .pushHl
  | .af => .pushAf

/-- `JR cc[y],e8`, byte `0x20 + 8*y` (R91). -/
def Instr.mkJrCc : Cond → Byte → Instr
  | .nz, e => .jrNzE8 e
  | .z, e => .jrZE8 e
  | .nc, e => .jrNcE8 e
  | .c, e => .jrCE8 e

/-- `RET cc[y]`, byte `0xC0 + 8*y` (R91). -/
def Instr.mkRetCc : Cond → Instr
  | .nz => .retNz
  | .z => .retZ
  | .nc => .retNc
  | .c => .retC

/-- `JP cc[y],a16`, byte `0xC2 + 8*y` (R91). -/
def Instr.mkJpCc : Cond → Word → Instr
  | .nz, a => .jpNzA16 a
  | .z, a => .jpZA16 a
  | .nc, a => .jpNcA16 a
  | .c, a => .jpCA16 a

/-- `CALL cc[y],a16`, byte `0xC4 + 8*y` (R91). -/
def Instr.mkCallCc : Cond → Word → Instr
  | .nz, a => .callNzA16 a
  | .z, a => .callZA16 a
  | .nc, a => .callNcA16 a
  | .c, a => .callCA16 a

/-- `RST y*8`, byte `0xC7 + 8*y` (R91). -/
def Instr.mkRst : Fin 8 → Instr
  | 0 => .rst00
  | 1 => .rst08
  | 2 => .rst10
  | 3 => .rst18
  | 4 => .rst20
  | 5 => .rst28
  | 6 => .rst30
  | 7 => .rst38

/-- `rot[y] r8[z]`, second byte `8*y + z` (R92). -/
def Instr.mkRot : Rot → Loc → Instr
  | .rlc, .reg .b => .rlcB
  | .rlc, .reg .c => .rlcC
  | .rlc, .reg .d => .rlcD
  | .rlc, .reg .e => .rlcE
  | .rlc, .reg .h => .rlcH
  | .rlc, .reg .l => .rlcL
  | .rlc, .indHl => .rlcIndHl
  | .rlc, .reg .a => .rlcA
  | .rrc, .reg .b => .rrcB
  | .rrc, .reg .c => .rrcC
  | .rrc, .reg .d => .rrcD
  | .rrc, .reg .e => .rrcE
  | .rrc, .reg .h => .rrcH
  | .rrc, .reg .l => .rrcL
  | .rrc, .indHl => .rrcIndHl
  | .rrc, .reg .a => .rrcA
  | .rl, .reg .b => .rlB
  | .rl, .reg .c => .rlC
  | .rl, .reg .d => .rlD
  | .rl, .reg .e => .rlE
  | .rl, .reg .h => .rlH
  | .rl, .reg .l => .rlL
  | .rl, .indHl => .rlIndHl
  | .rl, .reg .a => .rlA
  | .rr, .reg .b => .rrB
  | .rr, .reg .c => .rrC
  | .rr, .reg .d => .rrD
  | .rr, .reg .e => .rrE
  | .rr, .reg .h => .rrH
  | .rr, .reg .l => .rrL
  | .rr, .indHl => .rrIndHl
  | .rr, .reg .a => .rrA
  | .sla, .reg .b => .slaB
  | .sla, .reg .c => .slaC
  | .sla, .reg .d => .slaD
  | .sla, .reg .e => .slaE
  | .sla, .reg .h => .slaH
  | .sla, .reg .l => .slaL
  | .sla, .indHl => .slaIndHl
  | .sla, .reg .a => .slaA
  | .sra, .reg .b => .sraB
  | .sra, .reg .c => .sraC
  | .sra, .reg .d => .sraD
  | .sra, .reg .e => .sraE
  | .sra, .reg .h => .sraH
  | .sra, .reg .l => .sraL
  | .sra, .indHl => .sraIndHl
  | .sra, .reg .a => .sraA
  | .swap, .reg .b => .swapB
  | .swap, .reg .c => .swapC
  | .swap, .reg .d => .swapD
  | .swap, .reg .e => .swapE
  | .swap, .reg .h => .swapH
  | .swap, .reg .l => .swapL
  | .swap, .indHl => .swapIndHl
  | .swap, .reg .a => .swapA
  | .srl, .reg .b => .srlB
  | .srl, .reg .c => .srlC
  | .srl, .reg .d => .srlD
  | .srl, .reg .e => .srlE
  | .srl, .reg .h => .srlH
  | .srl, .reg .l => .srlL
  | .srl, .indHl => .srlIndHl
  | .srl, .reg .a => .srlA

/-- `BIT y,r8[z]`, second byte `0x40 + 8*y + z` (R92). -/
def Instr.mkBit : Fin 8 → Loc → Instr
  | 0, .reg .b => .bit0B
  | 0, .reg .c => .bit0C
  | 0, .reg .d => .bit0D
  | 0, .reg .e => .bit0E
  | 0, .reg .h => .bit0H
  | 0, .reg .l => .bit0L
  | 0, .indHl => .bit0IndHl
  | 0, .reg .a => .bit0A
  | 1, .reg .b => .bit1B
  | 1, .reg .c => .bit1C
  | 1, .reg .d => .bit1D
  | 1, .reg .e => .bit1E
  | 1, .reg .h => .bit1H
  | 1, .reg .l => .bit1L
  | 1, .indHl => .bit1IndHl
  | 1, .reg .a => .bit1A
  | 2, .reg .b => .bit2B
  | 2, .reg .c => .bit2C
  | 2, .reg .d => .bit2D
  | 2, .reg .e => .bit2E
  | 2, .reg .h => .bit2H
  | 2, .reg .l => .bit2L
  | 2, .indHl => .bit2IndHl
  | 2, .reg .a => .bit2A
  | 3, .reg .b => .bit3B
  | 3, .reg .c => .bit3C
  | 3, .reg .d => .bit3D
  | 3, .reg .e => .bit3E
  | 3, .reg .h => .bit3H
  | 3, .reg .l => .bit3L
  | 3, .indHl => .bit3IndHl
  | 3, .reg .a => .bit3A
  | 4, .reg .b => .bit4B
  | 4, .reg .c => .bit4C
  | 4, .reg .d => .bit4D
  | 4, .reg .e => .bit4E
  | 4, .reg .h => .bit4H
  | 4, .reg .l => .bit4L
  | 4, .indHl => .bit4IndHl
  | 4, .reg .a => .bit4A
  | 5, .reg .b => .bit5B
  | 5, .reg .c => .bit5C
  | 5, .reg .d => .bit5D
  | 5, .reg .e => .bit5E
  | 5, .reg .h => .bit5H
  | 5, .reg .l => .bit5L
  | 5, .indHl => .bit5IndHl
  | 5, .reg .a => .bit5A
  | 6, .reg .b => .bit6B
  | 6, .reg .c => .bit6C
  | 6, .reg .d => .bit6D
  | 6, .reg .e => .bit6E
  | 6, .reg .h => .bit6H
  | 6, .reg .l => .bit6L
  | 6, .indHl => .bit6IndHl
  | 6, .reg .a => .bit6A
  | 7, .reg .b => .bit7B
  | 7, .reg .c => .bit7C
  | 7, .reg .d => .bit7D
  | 7, .reg .e => .bit7E
  | 7, .reg .h => .bit7H
  | 7, .reg .l => .bit7L
  | 7, .indHl => .bit7IndHl
  | 7, .reg .a => .bit7A

/-- `RES y,r8[z]`, second byte `0x80 + 8*y + z` (R92). -/
def Instr.mkRes : Fin 8 → Loc → Instr
  | 0, .reg .b => .res0B
  | 0, .reg .c => .res0C
  | 0, .reg .d => .res0D
  | 0, .reg .e => .res0E
  | 0, .reg .h => .res0H
  | 0, .reg .l => .res0L
  | 0, .indHl => .res0IndHl
  | 0, .reg .a => .res0A
  | 1, .reg .b => .res1B
  | 1, .reg .c => .res1C
  | 1, .reg .d => .res1D
  | 1, .reg .e => .res1E
  | 1, .reg .h => .res1H
  | 1, .reg .l => .res1L
  | 1, .indHl => .res1IndHl
  | 1, .reg .a => .res1A
  | 2, .reg .b => .res2B
  | 2, .reg .c => .res2C
  | 2, .reg .d => .res2D
  | 2, .reg .e => .res2E
  | 2, .reg .h => .res2H
  | 2, .reg .l => .res2L
  | 2, .indHl => .res2IndHl
  | 2, .reg .a => .res2A
  | 3, .reg .b => .res3B
  | 3, .reg .c => .res3C
  | 3, .reg .d => .res3D
  | 3, .reg .e => .res3E
  | 3, .reg .h => .res3H
  | 3, .reg .l => .res3L
  | 3, .indHl => .res3IndHl
  | 3, .reg .a => .res3A
  | 4, .reg .b => .res4B
  | 4, .reg .c => .res4C
  | 4, .reg .d => .res4D
  | 4, .reg .e => .res4E
  | 4, .reg .h => .res4H
  | 4, .reg .l => .res4L
  | 4, .indHl => .res4IndHl
  | 4, .reg .a => .res4A
  | 5, .reg .b => .res5B
  | 5, .reg .c => .res5C
  | 5, .reg .d => .res5D
  | 5, .reg .e => .res5E
  | 5, .reg .h => .res5H
  | 5, .reg .l => .res5L
  | 5, .indHl => .res5IndHl
  | 5, .reg .a => .res5A
  | 6, .reg .b => .res6B
  | 6, .reg .c => .res6C
  | 6, .reg .d => .res6D
  | 6, .reg .e => .res6E
  | 6, .reg .h => .res6H
  | 6, .reg .l => .res6L
  | 6, .indHl => .res6IndHl
  | 6, .reg .a => .res6A
  | 7, .reg .b => .res7B
  | 7, .reg .c => .res7C
  | 7, .reg .d => .res7D
  | 7, .reg .e => .res7E
  | 7, .reg .h => .res7H
  | 7, .reg .l => .res7L
  | 7, .indHl => .res7IndHl
  | 7, .reg .a => .res7A

/-- `SET y,r8[z]`, second byte `0xC0 + 8*y + z` (R92). -/
def Instr.mkSet : Fin 8 → Loc → Instr
  | 0, .reg .b => .set0B
  | 0, .reg .c => .set0C
  | 0, .reg .d => .set0D
  | 0, .reg .e => .set0E
  | 0, .reg .h => .set0H
  | 0, .reg .l => .set0L
  | 0, .indHl => .set0IndHl
  | 0, .reg .a => .set0A
  | 1, .reg .b => .set1B
  | 1, .reg .c => .set1C
  | 1, .reg .d => .set1D
  | 1, .reg .e => .set1E
  | 1, .reg .h => .set1H
  | 1, .reg .l => .set1L
  | 1, .indHl => .set1IndHl
  | 1, .reg .a => .set1A
  | 2, .reg .b => .set2B
  | 2, .reg .c => .set2C
  | 2, .reg .d => .set2D
  | 2, .reg .e => .set2E
  | 2, .reg .h => .set2H
  | 2, .reg .l => .set2L
  | 2, .indHl => .set2IndHl
  | 2, .reg .a => .set2A
  | 3, .reg .b => .set3B
  | 3, .reg .c => .set3C
  | 3, .reg .d => .set3D
  | 3, .reg .e => .set3E
  | 3, .reg .h => .set3H
  | 3, .reg .l => .set3L
  | 3, .indHl => .set3IndHl
  | 3, .reg .a => .set3A
  | 4, .reg .b => .set4B
  | 4, .reg .c => .set4C
  | 4, .reg .d => .set4D
  | 4, .reg .e => .set4E
  | 4, .reg .h => .set4H
  | 4, .reg .l => .set4L
  | 4, .indHl => .set4IndHl
  | 4, .reg .a => .set4A
  | 5, .reg .b => .set5B
  | 5, .reg .c => .set5C
  | 5, .reg .d => .set5D
  | 5, .reg .e => .set5E
  | 5, .reg .h => .set5H
  | 5, .reg .l => .set5L
  | 5, .indHl => .set5IndHl
  | 5, .reg .a => .set5A
  | 6, .reg .b => .set6B
  | 6, .reg .c => .set6C
  | 6, .reg .d => .set6D
  | 6, .reg .e => .set6E
  | 6, .reg .h => .set6H
  | 6, .reg .l => .set6L
  | 6, .indHl => .set6IndHl
  | 6, .reg .a => .set6A
  | 7, .reg .b => .set7B
  | 7, .reg .c => .set7C
  | 7, .reg .d => .set7D
  | 7, .reg .e => .set7E
  | 7, .reg .h => .set7H
  | 7, .reg .l => .set7L
  | 7, .indHl => .set7IndHl
  | 7, .reg .a => .set7A

/-! ### The decoder -/

/-- An entry of the unprefixed table: what the opcode byte alone settles (R81, R90). -/
inductive Row where
  /-- The opcode byte is all a step fetches: format OP, an unassigned byte, or STOP (R262). -/
  | whole (i : Instr)
  /-- One immediate byte follows: formats OP_D8, OP_A8, OP_E8. -/
  | byteOperand (f : Byte → Instr)
  /-- Two immediate bytes follow, low byte first: formats OP_D16, OP_A16. -/
  | wordOperand (f : Word → Instr)
  /-- The byte 0xCB: the next byte indexes the CB table (R94). -/
  | cbPrefix

/-- The unprefixed table, by `x`, `z`, `y` (`p`, `q`) (R91). -/
def unprefixed (op : Byte) : Row :=
  match fieldX op with
  | 0 =>
    match fieldZ op with
    | 0 =>
      match fieldY op with
      | 0 => .whole .nop
      | 1 => .wordOperand .ldIndA16Sp
      | 2 => .whole .stop
      | 3 => .byteOperand .jrE8
      | 4 => .byteOperand (Instr.mkJrCc .nz)
      | 5 => .byteOperand (Instr.mkJrCc .z)
      | 6 => .byteOperand (Instr.mkJrCc .nc)
      | 7 => .byteOperand (Instr.mkJrCc .c)
    | 1 =>
      match fieldQ op with
      | 0 => .wordOperand (Instr.mkLdRp (rpOf (fieldP op)))
      | 1 => .whole (Instr.mkAddHl (rpOf (fieldP op)))
    | 2 =>
      match fieldQ op, fieldP op with
      | 0, 0 => .whole .ldIndBcA
      | 0, 1 => .whole .ldIndDeA
      | 0, 2 => .whole .ldIndHlIncA
      | 0, 3 => .whole .ldIndHlDecA
      | 1, 0 => .whole .ldAIndBc
      | 1, 1 => .whole .ldAIndDe
      | 1, 2 => .whole .ldAIndHlInc
      | 1, 3 => .whole .ldAIndHlDec
    | 3 =>
      match fieldQ op with
      | 0 => .whole (Instr.mkIncRp (rpOf (fieldP op)))
      | 1 => .whole (Instr.mkDecRp (rpOf (fieldP op)))
    | 4 => .whole (Instr.mkInc (locOf (fieldY op)))
    | 5 => .whole (Instr.mkDec (locOf (fieldY op)))
    | 6 => .byteOperand (Instr.mkLdImm (locOf (fieldY op)))
    | 7 =>
      match fieldY op with
      | 0 => .whole .rlca
      | 1 => .whole .rrca
      | 2 => .whole .rla
      | 3 => .whole .rra
      | 4 => .whole .daa
      | 5 => .whole .cpl
      | 6 => .whole .scf
      | 7 => .whole .ccf
  | 1 => .whole (Instr.mkLd (locOf (fieldY op)) (locOf (fieldZ op)))
  | 2 => .whole (Instr.mkAlu (aluOf (fieldY op)) (locOf (fieldZ op)))
  | 3 =>
    match fieldZ op with
    | 0 =>
      match fieldY op with
      | 0 => .whole (Instr.mkRetCc .nz)
      | 1 => .whole (Instr.mkRetCc .z)
      | 2 => .whole (Instr.mkRetCc .nc)
      | 3 => .whole (Instr.mkRetCc .c)
      | 4 => .byteOperand .ldhIndA8A
      | 5 => .byteOperand .addSpE8
      | 6 => .byteOperand .ldhAIndA8
      | 7 => .byteOperand .ldHlSpE8
    | 1 =>
      match fieldQ op, fieldP op with
      | 0, p => .whole (Instr.mkPop (rp2Of p))
      | 1, 0 => .whole .ret
      | 1, 1 => .whole .reti
      | 1, 2 => .whole .jpHl
      | 1, 3 => .whole .ldSpHl
    | 2 =>
      match fieldY op with
      | 0 => .wordOperand (Instr.mkJpCc .nz)
      | 1 => .wordOperand (Instr.mkJpCc .z)
      | 2 => .wordOperand (Instr.mkJpCc .nc)
      | 3 => .wordOperand (Instr.mkJpCc .c)
      | 4 => .whole .ldIndCA
      | 5 => .wordOperand .ldIndA16A
      | 6 => .whole .ldAIndC
      | 7 => .wordOperand .ldAIndA16
    | 3 =>
      match fieldY op with
      | 0 => .wordOperand .jpA16
      | 1 => .cbPrefix
      | 2 => .whole .illegalD3
      | 3 => .whole .illegalDB
      | 4 => .whole .illegalE3
      | 5 => .whole .illegalEB
      | 6 => .whole .di
      | 7 => .whole .ei
    | 4 =>
      match fieldY op with
      | 0 => .wordOperand (Instr.mkCallCc .nz)
      | 1 => .wordOperand (Instr.mkCallCc .z)
      | 2 => .wordOperand (Instr.mkCallCc .nc)
      | 3 => .wordOperand (Instr.mkCallCc .c)
      | 4 => .whole .illegalE4
      | 5 => .whole .illegalEC
      | 6 => .whole .illegalF4
      | 7 => .whole .illegalFC
    | 5 =>
      match fieldQ op, fieldP op with
      | 0, p => .whole (Instr.mkPush (rp2Of p))
      | 1, 0 => .wordOperand .callA16
      | 1, 1 => .whole .illegalDD
      | 1, 2 => .whole .illegalED
      | 1, 3 => .whole .illegalFD
    | 6 => .byteOperand (Instr.mkAluImm (aluOf (fieldY op)))
    | 7 => .whole (Instr.mkRst (fieldY op))

/-- The CB-prefixed table, by the fields of the second byte (R92); all 256 entries are assigned. -/
def prefixed (op2 : Byte) : Instr :=
  match fieldX op2 with
  | 0 => Instr.mkRot (rotOf (fieldY op2)) (locOf (fieldZ op2))
  | 1 => Instr.mkBit (fieldY op2) (locOf (fieldZ op2))
  | 2 => Instr.mkRes (fieldY op2) (locOf (fieldZ op2))
  | 3 => Instr.mkSet (fieldY op2) (locOf (fieldZ op2))

/-- Why a list of bytes gives no instruction. An unassigned byte is not among these: it decodes to its own row, whose meaning
raises the decode error of R266. -/
inductive DecodeError where
  /-- The list is empty. -/
  | noBytes
  /-- The list ends before the immediate of this opcode. -/
  | missingOperand (op : Byte)
deriving DecidableEq, Repr

/-- The instruction at the head of a list of bytes (R80, R81, R90). A lone 0xCB gives the unprefixed table's own entry, the
prefix row (R90: "every byte decodes to an instruction, to the prefix, or to the decode error"). -/
def decode (bytes : List Byte) : Except DecodeError Instr :=
  match bytes with
  | [] => .error .noBytes
  | op :: rest =>
    match unprefixed op, rest with
    | .whole i, _ => .ok i
    | .byteOperand f, d :: _ => .ok (f d)
    | .byteOperand _, [] => .error (.missingOperand op)
    | .wordOperand f, lo :: hi :: _ => .ok (f (joinBytes lo hi))
    | .wordOperand _, _ => .error (.missingOperand op)
    | .cbPrefix, op2 :: _ => .ok (prefixed op2)
    | .cbPrefix, [] => .ok .prefixCb

/-- The length in bytes, a function of the first byte alone (R80, the `length` column of opcode_table.json). STOP has length
2 though a step fetches one byte of it (R262). -/
def lengthOf (op : Byte) : Nat :=
  match unprefixed op with
  | .whole .stop => 2
  | .whole _ => 1
  | .byteOperand _ => 2
  | .wordOperand _ => 3
  | .cbPrefix => 2

/-! ### The encoder -/

/-- The bytes of an instruction in memory order, written from the `bytes` column of opcode_table.json (R81, R100). The ignored
second byte of STOP is written 0x00. -/
def encode (i : Instr) : List Byte :=
  match i with
  | .nop => [0x00]
  | .ldBcD16 d => [0x01, loByte d, hiByte d]
  | .ldIndBcA => [0x02]
  | .incBc => [0x03]
  | .incB => [0x04]
  | .decB => [0x05]
  | .ldBD8 d => [0x06, d]
  | .rlca => [0x07]
  | .ldIndA16Sp a => [0x08, loByte a, hiByte a]
  | .addHlBc => [0x09]
  | .ldAIndBc => [0x0A]
  | .decBc => [0x0B]
  | .incC => [0x0C]
  | .decC => [0x0D]
  | .ldCD8 d => [0x0E, d]
  | .rrca => [0x0F]
  | .stop => [0x10, 0x00]
  | .ldDeD16 d => [0x11, loByte d, hiByte d]
  | .ldIndDeA => [0x12]
  | .incDe => [0x13]
  | .incD => [0x14]
  | .decD => [0x15]
  | .ldDD8 d => [0x16, d]
  | .rla => [0x17]
  | .jrE8 e => [0x18, e]
  | .addHlDe => [0x19]
  | .ldAIndDe => [0x1A]
  | .decDe => [0x1B]
  | .incE => [0x1C]
  | .decE => [0x1D]
  | .ldED8 d => [0x1E, d]
  | .rra => [0x1F]
  | .jrNzE8 e => [0x20, e]
  | .ldHlD16 d => [0x21, loByte d, hiByte d]
  | .ldIndHlIncA => [0x22]
  | .incHl => [0x23]
  | .incH => [0x24]
  | .decH => [0x25]
  | .ldHD8 d => [0x26, d]
  | .daa => [0x27]
  | .jrZE8 e => [0x28, e]
  | .addHlHl => [0x29]
  | .ldAIndHlInc => [0x2A]
  | .decHl => [0x2B]
  | .incL => [0x2C]
  | .decL => [0x2D]
  | .ldLD8 d => [0x2E, d]
  | .cpl => [0x2F]
  | .jrNcE8 e => [0x30, e]
  | .ldSpD16 d => [0x31, loByte d, hiByte d]
  | .ldIndHlDecA => [0x32]
  | .incSp => [0x33]
  | .incIndHl => [0x34]
  | .decIndHl => [0x35]
  | .ldIndHlD8 d => [0x36, d]
  | .scf => [0x37]
  | .jrCE8 e => [0x38, e]
  | .addHlSp => [0x39]
  | .ldAIndHlDec => [0x3A]
  | .decSp => [0x3B]
  | .incA => [0x3C]
  | .decA => [0x3D]
  | .ldAD8 d => [0x3E, d]
  | .ccf => [0x3F]
  | .ldBB => [0x40]
  | .ldBC => [0x41]
  | .ldBD => [0x42]
  | .ldBE => [0x43]
  | .ldBH => [0x44]
  | .ldBL => [0x45]
  | .ldBIndHl => [0x46]
  | .ldBA => [0x47]
  | .ldCB => [0x48]
  | .ldCC => [0x49]
  | .ldCD => [0x4A]
  | .ldCE => [0x4B]
  | .ldCH => [0x4C]
  | .ldCL => [0x4D]
  | .ldCIndHl => [0x4E]
  | .ldCA => [0x4F]
  | .ldDB => [0x50]
  | .ldDC => [0x51]
  | .ldDD => [0x52]
  | .ldDE => [0x53]
  | .ldDH => [0x54]
  | .ldDL => [0x55]
  | .ldDIndHl => [0x56]
  | .ldDA => [0x57]
  | .ldEB => [0x58]
  | .ldEC => [0x59]
  | .ldED => [0x5A]
  | .ldEE => [0x5B]
  | .ldEH => [0x5C]
  | .ldEL => [0x5D]
  | .ldEIndHl => [0x5E]
  | .ldEA => [0x5F]
  | .ldHB => [0x60]
  | .ldHC => [0x61]
  | .ldHD => [0x62]
  | .ldHE => [0x63]
  | .ldHH => [0x64]
  | .ldHL => [0x65]
  | .ldHIndHl => [0x66]
  | .ldHA => [0x67]
  | .ldLB => [0x68]
  | .ldLC => [0x69]
  | .ldLD => [0x6A]
  | .ldLE => [0x6B]
  | .ldLH => [0x6C]
  | .ldLL => [0x6D]
  | .ldLIndHl => [0x6E]
  | .ldLA => [0x6F]
  | .ldIndHlB => [0x70]
  | .ldIndHlC => [0x71]
  | .ldIndHlD => [0x72]
  | .ldIndHlE => [0x73]
  | .ldIndHlH => [0x74]
  | .ldIndHlL => [0x75]
  | .halt => [0x76]
  | .ldIndHlA => [0x77]
  | .ldAB => [0x78]
  | .ldAC => [0x79]
  | .ldAD => [0x7A]
  | .ldAE => [0x7B]
  | .ldAH => [0x7C]
  | .ldAL => [0x7D]
  | .ldAIndHl => [0x7E]
  | .ldAA => [0x7F]
  | .addAB => [0x80]
  | .addAC => [0x81]
  | .addAD => [0x82]
  | .addAE => [0x83]
  | .addAH => [0x84]
  | .addAL => [0x85]
  | .addAIndHl => [0x86]
  | .addAA => [0x87]
  | .adcAB => [0x88]
  | .adcAC => [0x89]
  | .adcAD => [0x8A]
  | .adcAE => [0x8B]
  | .adcAH => [0x8C]
  | .adcAL => [0x8D]
  | .adcAIndHl => [0x8E]
  | .adcAA => [0x8F]
  | .subB => [0x90]
  | .subC => [0x91]
  | .subD => [0x92]
  | .subE => [0x93]
  | .subH => [0x94]
  | .subL => [0x95]
  | .subIndHl => [0x96]
  | .subA => [0x97]
  | .sbcAB => [0x98]
  | .sbcAC => [0x99]
  | .sbcAD => [0x9A]
  | .sbcAE => [0x9B]
  | .sbcAH => [0x9C]
  | .sbcAL => [0x9D]
  | .sbcAIndHl => [0x9E]
  | .sbcAA => [0x9F]
  | .andB => [0xA0]
  | .andC => [0xA1]
  | .andD => [0xA2]
  | .andE => [0xA3]
  | .andH => [0xA4]
  | .andL => [0xA5]
  | .andIndHl => [0xA6]
  | .andA => [0xA7]
  | .xorB => [0xA8]
  | .xorC => [0xA9]
  | .xorD => [0xAA]
  | .xorE => [0xAB]
  | .xorH => [0xAC]
  | .xorL => [0xAD]
  | .xorIndHl => [0xAE]
  | .xorA => [0xAF]
  | .orB => [0xB0]
  | .orC => [0xB1]
  | .orD => [0xB2]
  | .orE => [0xB3]
  | .orH => [0xB4]
  | .orL => [0xB5]
  | .orIndHl => [0xB6]
  | .orA => [0xB7]
  | .cpB => [0xB8]
  | .cpC => [0xB9]
  | .cpD => [0xBA]
  | .cpE => [0xBB]
  | .cpH => [0xBC]
  | .cpL => [0xBD]
  | .cpIndHl => [0xBE]
  | .cpA => [0xBF]
  | .retNz => [0xC0]
  | .popBc => [0xC1]
  | .jpNzA16 a => [0xC2, loByte a, hiByte a]
  | .jpA16 a => [0xC3, loByte a, hiByte a]
  | .callNzA16 a => [0xC4, loByte a, hiByte a]
  | .pushBc => [0xC5]
  | .addAD8 d => [0xC6, d]
  | .rst00 => [0xC7]
  | .retZ => [0xC8]
  | .ret => [0xC9]
  | .jpZA16 a => [0xCA, loByte a, hiByte a]
  | .prefixCb => [0xCB]
  | .callZA16 a => [0xCC, loByte a, hiByte a]
  | .callA16 a => [0xCD, loByte a, hiByte a]
  | .adcAD8 d => [0xCE, d]
  | .rst08 => [0xCF]
  | .retNc => [0xD0]
  | .popDe => [0xD1]
  | .jpNcA16 a => [0xD2, loByte a, hiByte a]
  | .illegalD3 => [0xD3]
  | .callNcA16 a => [0xD4, loByte a, hiByte a]
  | .pushDe => [0xD5]
  | .subD8 d => [0xD6, d]
  | .rst10 => [0xD7]
  | .retC => [0xD8]
  | .reti => [0xD9]
  | .jpCA16 a => [0xDA, loByte a, hiByte a]
  | .illegalDB => [0xDB]
  | .callCA16 a => [0xDC, loByte a, hiByte a]
  | .illegalDD => [0xDD]
  | .sbcAD8 d => [0xDE, d]
  | .rst18 => [0xDF]
  | .ldhIndA8A o => [0xE0, o]
  | .popHl => [0xE1]
  | .ldIndCA => [0xE2]
  | .illegalE3 => [0xE3]
  | .illegalE4 => [0xE4]
  | .pushHl => [0xE5]
  | .andD8 d => [0xE6, d]
  | .rst20 => [0xE7]
  | .addSpE8 e => [0xE8, e]
  | .jpHl => [0xE9]
  | .ldIndA16A a => [0xEA, loByte a, hiByte a]
  | .illegalEB => [0xEB]
  | .illegalEC => [0xEC]
  | .illegalED => [0xED]
  | .xorD8 d => [0xEE, d]
  | .rst28 => [0xEF]
  | .ldhAIndA8 o => [0xF0, o]
  | .popAf => [0xF1]
  | .ldAIndC => [0xF2]
  | .di => [0xF3]
  | .illegalF4 => [0xF4]
  | .pushAf => [0xF5]
  | .orD8 d => [0xF6, d]
  | .rst30 => [0xF7]
  | .ldHlSpE8 e => [0xF8, e]
  | .ldSpHl => [0xF9]
  | .ldAIndA16 a => [0xFA, loByte a, hiByte a]
  | .ei => [0xFB]
  | .illegalFC => [0xFC]
  | .illegalFD => [0xFD]
  | .cpD8 d => [0xFE, d]
  | .rst38 => [0xFF]
  | .rlcB => [0xCB, 0x00]
  | .rlcC => [0xCB, 0x01]
  | .rlcD => [0xCB, 0x02]
  | .rlcE => [0xCB, 0x03]
  | .rlcH => [0xCB, 0x04]
  | .rlcL => [0xCB, 0x05]
  | .rlcIndHl => [0xCB, 0x06]
  | .rlcA => [0xCB, 0x07]
  | .rrcB => [0xCB, 0x08]
  | .rrcC => [0xCB, 0x09]
  | .rrcD => [0xCB, 0x0A]
  | .rrcE => [0xCB, 0x0B]
  | .rrcH => [0xCB, 0x0C]
  | .rrcL => [0xCB, 0x0D]
  | .rrcIndHl => [0xCB, 0x0E]
  | .rrcA => [0xCB, 0x0F]
  | .rlB => [0xCB, 0x10]
  | .rlC => [0xCB, 0x11]
  | .rlD => [0xCB, 0x12]
  | .rlE => [0xCB, 0x13]
  | .rlH => [0xCB, 0x14]
  | .rlL => [0xCB, 0x15]
  | .rlIndHl => [0xCB, 0x16]
  | .rlA => [0xCB, 0x17]
  | .rrB => [0xCB, 0x18]
  | .rrC => [0xCB, 0x19]
  | .rrD => [0xCB, 0x1A]
  | .rrE => [0xCB, 0x1B]
  | .rrH => [0xCB, 0x1C]
  | .rrL => [0xCB, 0x1D]
  | .rrIndHl => [0xCB, 0x1E]
  | .rrA => [0xCB, 0x1F]
  | .slaB => [0xCB, 0x20]
  | .slaC => [0xCB, 0x21]
  | .slaD => [0xCB, 0x22]
  | .slaE => [0xCB, 0x23]
  | .slaH => [0xCB, 0x24]
  | .slaL => [0xCB, 0x25]
  | .slaIndHl => [0xCB, 0x26]
  | .slaA => [0xCB, 0x27]
  | .sraB => [0xCB, 0x28]
  | .sraC => [0xCB, 0x29]
  | .sraD => [0xCB, 0x2A]
  | .sraE => [0xCB, 0x2B]
  | .sraH => [0xCB, 0x2C]
  | .sraL => [0xCB, 0x2D]
  | .sraIndHl => [0xCB, 0x2E]
  | .sraA => [0xCB, 0x2F]
  | .swapB => [0xCB, 0x30]
  | .swapC => [0xCB, 0x31]
  | .swapD => [0xCB, 0x32]
  | .swapE => [0xCB, 0x33]
  | .swapH => [0xCB, 0x34]
  | .swapL => [0xCB, 0x35]
  | .swapIndHl => [0xCB, 0x36]
  | .swapA => [0xCB, 0x37]
  | .srlB => [0xCB, 0x38]
  | .srlC => [0xCB, 0x39]
  | .srlD => [0xCB, 0x3A]
  | .srlE => [0xCB, 0x3B]
  | .srlH => [0xCB, 0x3C]
  | .srlL => [0xCB, 0x3D]
  | .srlIndHl => [0xCB, 0x3E]
  | .srlA => [0xCB, 0x3F]
  | .bit0B => [0xCB, 0x40]
  | .bit0C => [0xCB, 0x41]
  | .bit0D => [0xCB, 0x42]
  | .bit0E => [0xCB, 0x43]
  | .bit0H => [0xCB, 0x44]
  | .bit0L => [0xCB, 0x45]
  | .bit0IndHl => [0xCB, 0x46]
  | .bit0A => [0xCB, 0x47]
  | .bit1B => [0xCB, 0x48]
  | .bit1C => [0xCB, 0x49]
  | .bit1D => [0xCB, 0x4A]
  | .bit1E => [0xCB, 0x4B]
  | .bit1H => [0xCB, 0x4C]
  | .bit1L => [0xCB, 0x4D]
  | .bit1IndHl => [0xCB, 0x4E]
  | .bit1A => [0xCB, 0x4F]
  | .bit2B => [0xCB, 0x50]
  | .bit2C => [0xCB, 0x51]
  | .bit2D => [0xCB, 0x52]
  | .bit2E => [0xCB, 0x53]
  | .bit2H => [0xCB, 0x54]
  | .bit2L => [0xCB, 0x55]
  | .bit2IndHl => [0xCB, 0x56]
  | .bit2A => [0xCB, 0x57]
  | .bit3B => [0xCB, 0x58]
  | .bit3C => [0xCB, 0x59]
  | .bit3D => [0xCB, 0x5A]
  | .bit3E => [0xCB, 0x5B]
  | .bit3H => [0xCB, 0x5C]
  | .bit3L => [0xCB, 0x5D]
  | .bit3IndHl => [0xCB, 0x5E]
  | .bit3A => [0xCB, 0x5F]
  | .bit4B => [0xCB, 0x60]
  | .bit4C => [0xCB, 0x61]
  | .bit4D => [0xCB, 0x62]
  | .bit4E => [0xCB, 0x63]
  | .bit4H => [0xCB, 0x64]
  | .bit4L => [0xCB, 0x65]
  | .bit4IndHl => [0xCB, 0x66]
  | .bit4A => [0xCB, 0x67]
  | .bit5B => [0xCB, 0x68]
  | .bit5C => [0xCB, 0x69]
  | .bit5D => [0xCB, 0x6A]
  | .bit5E => [0xCB, 0x6B]
  | .bit5H => [0xCB, 0x6C]
  | .bit5L => [0xCB, 0x6D]
  | .bit5IndHl => [0xCB, 0x6E]
  | .bit5A => [0xCB, 0x6F]
  | .bit6B => [0xCB, 0x70]
  | .bit6C => [0xCB, 0x71]
  | .bit6D => [0xCB, 0x72]
  | .bit6E => [0xCB, 0x73]
  | .bit6H => [0xCB, 0x74]
  | .bit6L => [0xCB, 0x75]
  | .bit6IndHl => [0xCB, 0x76]
  | .bit6A => [0xCB, 0x77]
  | .bit7B => [0xCB, 0x78]
  | .bit7C => [0xCB, 0x79]
  | .bit7D => [0xCB, 0x7A]
  | .bit7E => [0xCB, 0x7B]
  | .bit7H => [0xCB, 0x7C]
  | .bit7L => [0xCB, 0x7D]
  | .bit7IndHl => [0xCB, 0x7E]
  | .bit7A => [0xCB, 0x7F]
  | .res0B => [0xCB, 0x80]
  | .res0C => [0xCB, 0x81]
  | .res0D => [0xCB, 0x82]
  | .res0E => [0xCB, 0x83]
  | .res0H => [0xCB, 0x84]
  | .res0L => [0xCB, 0x85]
  | .res0IndHl => [0xCB, 0x86]
  | .res0A => [0xCB, 0x87]
  | .res1B => [0xCB, 0x88]
  | .res1C => [0xCB, 0x89]
  | .res1D => [0xCB, 0x8A]
  | .res1E => [0xCB, 0x8B]
  | .res1H => [0xCB, 0x8C]
  | .res1L => [0xCB, 0x8D]
  | .res1IndHl => [0xCB, 0x8E]
  | .res1A => [0xCB, 0x8F]
  | .res2B => [0xCB, 0x90]
  | .res2C => [0xCB, 0x91]
  | .res2D => [0xCB, 0x92]
  | .res2E => [0xCB, 0x93]
  | .res2H => [0xCB, 0x94]
  | .res2L => [0xCB, 0x95]
  | .res2IndHl => [0xCB, 0x96]
  | .res2A => [0xCB, 0x97]
  | .res3B => [0xCB, 0x98]
  | .res3C => [0xCB, 0x99]
  | .res3D => [0xCB, 0x9A]
  | .res3E => [0xCB, 0x9B]
  | .res3H => [0xCB, 0x9C]
  | .res3L => [0xCB, 0x9D]
  | .res3IndHl => [0xCB, 0x9E]
  | .res3A => [0xCB, 0x9F]
  | .res4B => [0xCB, 0xA0]
  | .res4C => [0xCB, 0xA1]
  | .res4D => [0xCB, 0xA2]
  | .res4E => [0xCB, 0xA3]
  | .res4H => [0xCB, 0xA4]
  | .res4L => [0xCB, 0xA5]
  | .res4IndHl => [0xCB, 0xA6]
  | .res4A => [0xCB, 0xA7]
  | .res5B => [0xCB, 0xA8]
  | .res5C => [0xCB, 0xA9]
  | .res5D => [0xCB, 0xAA]
  | .res5E => [0xCB, 0xAB]
  | .res5H => [0xCB, 0xAC]
  | .res5L => [0xCB, 0xAD]
  | .res5IndHl => [0xCB, 0xAE]
  | .res5A => [0xCB, 0xAF]
  | .res6B => [0xCB, 0xB0]
  | .res6C => [0xCB, 0xB1]
  | .res6D => [0xCB, 0xB2]
  | .res6E => [0xCB, 0xB3]
  | .res6H => [0xCB, 0xB4]
  | .res6L => [0xCB, 0xB5]
  | .res6IndHl => [0xCB, 0xB6]
  | .res6A => [0xCB, 0xB7]
  | .res7B => [0xCB, 0xB8]
  | .res7C => [0xCB, 0xB9]
  | .res7D => [0xCB, 0xBA]
  | .res7E => [0xCB, 0xBB]
  | .res7H => [0xCB, 0xBC]
  | .res7L => [0xCB, 0xBD]
  | .res7IndHl => [0xCB, 0xBE]
  | .res7A => [0xCB, 0xBF]
  | .set0B => [0xCB, 0xC0]
  | .set0C => [0xCB, 0xC1]
  | .set0D => [0xCB, 0xC2]
  | .set0E => [0xCB, 0xC3]
  | .set0H => [0xCB, 0xC4]
  | .set0L => [0xCB, 0xC5]
  | .set0IndHl => [0xCB, 0xC6]
  | .set0A => [0xCB, 0xC7]
  | .set1B => [0xCB, 0xC8]
  | .set1C => [0xCB, 0xC9]
  | .set1D => [0xCB, 0xCA]
  | .set1E => [0xCB, 0xCB]
  | .set1H => [0xCB, 0xCC]
  | .set1L => [0xCB, 0xCD]
  | .set1IndHl => [0xCB, 0xCE]
  | .set1A => [0xCB, 0xCF]
  | .set2B => [0xCB, 0xD0]
  | .set2C => [0xCB, 0xD1]
  | .set2D => [0xCB, 0xD2]
  | .set2E => [0xCB, 0xD3]
  | .set2H => [0xCB, 0xD4]
  | .set2L => [0xCB, 0xD5]
  | .set2IndHl => [0xCB, 0xD6]
  | .set2A => [0xCB, 0xD7]
  | .set3B => [0xCB, 0xD8]
  | .set3C => [0xCB, 0xD9]
  | .set3D => [0xCB, 0xDA]
  | .set3E => [0xCB, 0xDB]
  | .set3H => [0xCB, 0xDC]
  | .set3L => [0xCB, 0xDD]
  | .set3IndHl => [0xCB, 0xDE]
  | .set3A => [0xCB, 0xDF]
  | .set4B => [0xCB, 0xE0]
  | .set4C => [0xCB, 0xE1]
  | .set4D => [0xCB, 0xE2]
  | .set4E => [0xCB, 0xE3]
  | .set4H => [0xCB, 0xE4]
  | .set4L => [0xCB, 0xE5]
  | .set4IndHl => [0xCB, 0xE6]
  | .set4A => [0xCB, 0xE7]
  | .set5B => [0xCB, 0xE8]
  | .set5C => [0xCB, 0xE9]
  | .set5D => [0xCB, 0xEA]
  | .set5E => [0xCB, 0xEB]
  | .set5H => [0xCB, 0xEC]
  | .set5L => [0xCB, 0xED]
  | .set5IndHl => [0xCB, 0xEE]
  | .set5A => [0xCB, 0xEF]
  | .set6B => [0xCB, 0xF0]
  | .set6C => [0xCB, 0xF1]
  | .set6D => [0xCB, 0xF2]
  | .set6E => [0xCB, 0xF3]
  | .set6H => [0xCB, 0xF4]
  | .set6L => [0xCB, 0xF5]
  | .set6IndHl => [0xCB, 0xF6]
  | .set6A => [0xCB, 0xF7]
  | .set7B => [0xCB, 0xF8]
  | .set7C => [0xCB, 0xF9]
  | .set7D => [0xCB, 0xFA]
  | .set7E => [0xCB, 0xFB]
  | .set7H => [0xCB, 0xFC]
  | .set7L => [0xCB, 0xFD]
  | .set7IndHl => [0xCB, 0xFE]
  | .set7A => [0xCB, 0xFF]

/-! ### The host's numbering -/

/-- The three bytes of an instruction whose bits are `w`. The first byte is bits 7 to 0, and so on upward, except where the
table numbers a CB row: "over the number `b0 * 256 + b1`" (R100), so a 16-bit word with 0xCB in bits 15 to 8 has its first
byte there (log 13). Bits from `nbits` up are 0. -/
def tableBytes (nbits w : Nat) : List Byte :=
  let v := w % 2 ^ nbits
  let b0 := BitVec.ofNat 8 v
  let b1 := BitVec.ofNat 8 (v / 256)
  let b2 := BitVec.ofNat 8 (v / 65536)
  if nbits = 16 ∧ b1 = 0xCB then [b1, b0, 0] else [b0, b1, b2]

/-- The instruction the decoder reads from a word numbered as opcode_table.json numbers it. The row PREFIX_CB has one byte
(R100, `length` 1), so the 8-bit word 0xCB is that byte alone. -/
def decodeTableWord (nbits w : Nat) : Option Instr :=
  let bytes := if nbits = 8 ∧ w = 0xCB then [0xCB] else tableBytes nbits w
  match decode bytes with
  | .ok i => some i
  | .error _ => none

end Sys2Proof
end

