-- ==== Sys2Proof/Config.lean ====
section
/-! DEFINITION. What the platform fixes and the values the spec leaves open (00_scope.md rule R5, 93_implementation_defined.md).

A parameter that selects between two behaviours the spec describes is plain data in `Platform`, which `State` carries and
no step changes: a statement about every state is then a statement about every platform. A value the spec does not give
is an opaque constant with no body. -/

namespace Sys2Proof

/-- The collaborator-owned regions of the address space (20_memory.md rules R41, R45). -/
inductive Region where
  /-- 0x0000 to 0x9FFF: cartridge ROM / video RAM. -/
  | cartRomVram
  /-- 0xA000 to 0xBFFF: cartridge RAM. -/
  | cartRam
  /-- 0xFF00: joypad register. -/
  | joypad
  /-- 0xFF01 to 0xFF02: serial I/O. -/
  | serial
  /-- 0xFF04 to 0xFF07: timer registers. -/
  | timer
  /-- 0xFF10 to 0xFF3F: audio registers. -/
  | audio
  /-- 0xFF40 to 0xFF45, 0xFF47 to 0xFF4B, 0xFF4F, 0xFF68 to 0xFF69: PPU/LCD registers. -/
  | ppu
  /-- 0xFF46: OAM DMA trigger. -/
  | oamDma
  /-- 0xFF70: working-RAM bank select. -/
  | svbk
deriving DecidableEq, Repr

/-- The direction of an access, with the value of a write (60_exceptions.md rule R273). -/
inductive Access where
  | read
  | write (v : Byte)
deriving DecidableEq, Repr

/-- One call of an injected handler: the whole of what a collaborator sees of the core (20_memory.md rules R45, R66). -/
structure HandlerCall where
  region : Region
  addr   : Word
  access : Access
deriving DecidableEq, Repr

/-- The parameters of the platform that are data (R5). DESIGN CHOICE (log 2, 3): held as plain data beside the state. -/
structure Platform where
  /-- `EI_DELAYED` (R5, 92_eei_decisions.md D1). -/
  eiDelayed : Bool
  /-- The regions for which `HANDLERS` has an entry (R5, R45). -/
  handlers  : List Region
  /-- Bytes the platform is known to answer at fixed addresses of its handlers (a cartridge ROM's image). Every other
  answer of a handler is free: `Config.handlerAnswer`. -/
  image     : List Host.Cell
deriving DecidableEq, Repr

/-- The defaults of R5: `EI_DELAYED = false` and `HANDLERS` the empty map. -/
def Platform.default : Platform :=
  { eiDelayed := false, handlers := [], image := [] }

/-- FREE VALUE (log 4): the byte of working RAM or high RAM at this address right after reset
(10_state.md rule R33: "every byte unspecified"). -/
opaque Config.ramReset : Nat → Byte

/-- FREE VALUE (log 5): what a handler's read answers. The argument is every call made so far, newest first, the read
itself at the head: R45 lets the answer depend "on the whole history of accesses". -/
opaque Config.handlerAnswer : List HandlerCall → Byte

/-- FREE VALUE (log 6): the byte the `n`-th read of 0xFF7F returns (`FF7F_READ`, rule R50). -/
opaque Config.ff7fRead : Nat → Byte

/-- `INT_DISPATCH_COST` (R5, R308). UNVERIFIED (log 12). -/
def Config.interruptDispatchCost : Nat := 20

/-- `HALT_IDLE_COST` (R5, R308). UNVERIFIED (log 12). -/
def Config.haltIdleCost : Nat := 4

end Sys2Proof
end

