-- ==== Sys2Proof/Machine/State.lean ====
section
/-! DEFINITION. The state of the core (10_state.md rule R10), its reset value (R33), and the ways a step can stop
(60_exceptions.md section 2). The fields after `status` are the model's own: what the interface needs to carry a step's
report, the platform and the environment beside the core. -/

namespace Sys2Proof.Machine

/-- A fatal condition with the information it records (60_exceptions.md section 2). -/
inductive Fatal where
  /-- R272: the offending byte, the address it was fetched from, `sp`. -/
  | invalidOpcode (byte : Byte) (pc sp : Word)
  /-- R273: the collaborator region with no handler, the address, the direction and the value of a write. -/
  | notImplemented (region : Region) (addr : Word) (access : Access)
  /-- R274: the address in no row of the dispatch table. -/
  | addressOutOfRange (addr : Word)
  /-- R275: an operand used through a capability it lacks; nothing reachable raises it. -/
  | operandCapability
  /-- R276: the address of the 0x10 byte. -/
  | stopNotModelled (pc : Word)
deriving DecidableEq, Repr

/-- `status` (R36). -/
inductive Status where
  | running
  | faulted (cause : Fatal)
deriving DecidableEq, Repr

/-- The timing classification an executed instruction reports (70_reset_and_hazards.md rule R306). -/
inductive Timing where
  | default
  | conditionalTaken
  | extendedCB (cost : Nat)
deriving DecidableEq, Repr

/-- What the last step reported (60_exceptions.md rule R271). R31 says the classification is no state of the core; here it is
the step's output, held where the interface can show it (log 7). A Fatal's report is the `Fault` itself. -/
inductive Report where
  /-- No step has reported yet, or the last one ended in a Fatal. -/
  | none
  | executed (timing : Timing)
  | interruptDispatch (n : Fin 5)
  | haltIdle
deriving DecidableEq, Repr

/-- The memory the core backs, as the bytes written since reset: addresses strictly rising. Working RAM is keyed 0xC000 to
0xDFFF and high RAM 0xFF80 to 0xFFFE (R29, R30). -/
abbrev Memory := List Host.Cell

structure State where
  /-- `A`, the accumulator (R11). -/
  a : Byte
  /-- `F`: Z N H C in bits 7 to 4, bits 3 to 0 zero (R12). -/
  f : Byte
  /-- `B` (R11). -/
  b : Byte
  /-- `C` (R11). -/
  c : Byte
  /-- `D` (R11). -/
  d : Byte
  /-- `E` (R11). -/
  e : Byte
  /-- `H` (R11). -/
  h : Byte
  /-- `L` (R11). -/
  l : Byte
  /-- `SP` (R15). -/
  sp : Word
  /-- `PC` (R16). -/
  pc : Word
  /-- `halted` (R20). -/
  halted : Bool
  /-- `IME` (R21). -/
  ime : Bool
  /-- `IE` at 0xFFFF (R22). -/
  ie : Byte
  /-- `IF` at 0xFF0F (R23). -/
  ifr : Byte
  /-- `dma_latch` (R26). -/
  dmaLatch : Byte
  /-- `svbk_latch` (R27). -/
  svbkLatch : Byte
  /-- `ei_pending` (R28). -/
  eiPending : Bool
  /-- `WRAM` and `HRAM` (R29, R30). -/
  mem : Memory
  /-- `status` (R36). -/
  status : Status
  /-- MODEL'S OWN (log 7): what the last step reported. -/
  report : Report
  /-- MODEL'S OWN (log 2, 3): the platform's parameters; no step changes them. -/
  platform : Platform
  /-- MODEL'S OWN (log 8): the masks the environment will OR into `IF`, one at each step boundary to come (R74). -/
  envIrq : List (BitVec 5)
  /-- MODEL'S OWN (log 5): the calls made of handlers, newest first (R45). -/
  calls : List HandlerCall
  /-- MODEL'S OWN (log 6): how many times 0xFF7F has been read (R50). -/
  draws : Nat
deriving DecidableEq, Repr

/-- The machine right after reset: the recommended values of 10_state.md rule R33 (log 9, 17), nothing written to RAM, the default
platform of R5. -/
def State.reset : State where
  a := 0x11
  f := 0x80
  b := 0x00
  c := 0x00
  d := 0xFF
  e := 0x56
  h := 0x00
  l := 0x0D
  sp := 0xFFFE
  pc := 0x0100
  halted := false
  ime := false
  ie := 0x00
  ifr := 0x00
  dmaLatch := 0x00
  svbkLatch := 0x00
  eiPending := false
  mem := []
  status := .running
  report := .none
  platform := Platform.default
  envIrq := []
  calls := []
  draws := 0

/-- A fatal condition ends the step (R271). Each constructor carries the information of its kind and `left`, the state the
pseudocode's order leaves (R277, log 10), whose `status` is `faulted`. All are SAFE: the spec itself stops the machine here. -/
inductive Fault where
  /-- Raised by the eleven unassigned bytes (R266, R272). Safe. -/
  | invalidOpcode (byte : Byte) (pc sp : Word) (left : State)
  /-- Raised by an access to a collaborator region with no handler (R45, R273). Safe. -/
  | notImplemented (region : Region) (addr : Word) (access : Access) (left : State)
  /-- Raised by an access to an address in no row of the dispatch table (R53, R274). Safe. -/
  | addressOutOfRange (addr : Word) (left : State)
  /-- Raised by nothing reachable; kept so that the taxonomy is complete (R275, R39). Safe. -/
  | operandCapability (left : State)
  /-- Raised by STOP (R262, R276). Safe. -/
  | stopNotModelled (pc : Word) (left : State)
deriving DecidableEq, Repr

/-- The state a fatal condition leaves. -/
def Fault.left : Fault → State
  | .invalidOpcode _ _ _ s => s
  | .notImplemented _ _ _ s => s
  | .addressOutOfRange _ s => s
  | .operandCapability s => s
  | .stopNotModelled _ s => s

/-- The kind and information of a fault. -/
def Fault.cause : Fault → Fatal
  | .invalidOpcode b p q _ => .invalidOpcode b p q
  | .notImplemented g a x _ => .notImplemented g a x
  | .addressOutOfRange a _ => .addressOutOfRange a
  | .operandCapability _ => .operandCapability
  | .stopNotModelled p _ => .stopNotModelled p

/-- Why the model answers nothing. -/
inductive Refusal where
  /-- Answered by `exec`'s arm of an instruction with no meaning yet; no arm does. Safe. -/
  | notModelled (mnemonic : String)
  /-- Answered by `step` on a faulted state: "`step()` is not defined" there (R277, 93_implementation_defined.md U15). Safe. -/
  | notRunning (cause : Fatal)
deriving DecidableEq, Repr

end Sys2Proof.Machine
end

