-- ==== Sys2Proof/Machine/Ops.lean ====
section
/-! DEFINITION. The named operations over registers and memory: the Memory Router (20_memory.md), fetch and stack primitives,
raising a Fatal, interrupt dispatch and the return from it (60_exceptions.md). -/

namespace Sys2Proof.Machine

/-- What a primitive answers: a value and a state, or a state, or the way the step stops. -/
abbrev Res (α : Type) := Host.Outcome α Fault Refusal

/-- Pseudocode lines in order: the second runs only if the first did not raise (R271). -/
def andThen {α β : Type} (r : Res α) (k : α → Res β) : Res β :=
  match r with
  | .next x => k x
  | .fault e => .fault e
  | .refused e => .refused e

/-- The `Fault` of a fatal condition that leaves `s`. -/
def faultOf (cause : Fatal) (s : State) : Fault :=
  match cause with
  | .invalidOpcode b p q => .invalidOpcode b p q s
  | .notImplemented g a x => .notImplemented g a x s
  | .addressOutOfRange a => .addressOutOfRange a s
  | .operandCapability => .operandCapability s
  | .stopNotModelled p => .stopNotModelled p s

/-- `raise Fatal(kind, info)`: `status <- Faulted(kind, info)` and nothing after it happens (R271, R277). -/
def raise {α : Type} (cause : Fatal) (s : State) : Res α :=
  .fault (faultOf cause { s with status := .faulted cause, report := .none })

/-! ### Registers and pairs (R11 to R16) -/

/-- `x[r]` for an 8-bit register (00_scope.md section 6). -/
def State.reg8 (s : State) (r : Reg8) : Byte :=
  match r with
  | .b => s.b | .c => s.c | .d => s.d | .e => s.e | .h => s.h | .l => s.l | .a => s.a

/-- `x[r] <- v` for an 8-bit register. -/
def State.setReg8 (s : State) (r : Reg8) (v : Byte) : State :=
  match r with
  | .b => { s with b := v } | .c => { s with c := v } | .d => { s with d := v } | .e => { s with e := v }
  | .h => { s with h := v } | .l => { s with l := v } | .a => { s with a := v }

/-- `BC = B:C` (R13). -/
def State.bc (s : State) : Word := joinBytes s.c s.b
/-- `DE = D:E` (R13). -/
def State.de (s : State) : Word := joinBytes s.e s.d
/-- `HL = H:L` (R13). -/
def State.hl (s : State) : Word := joinBytes s.l s.h
/-- `AF = A:F` with `F[3:0] = 0` (R13, R14). -/
def State.af (s : State) : Word := joinBytes (s.f &&& 0xF0) s.a

/-- `BC <- v` (R13). -/
def State.setBc (s : State) (v : Word) : State := { s with b := hiByte v, c := loByte v }
/-- `DE <- v` (R13). -/
def State.setDe (s : State) (v : Word) : State := { s with d := hiByte v, e := loByte v }
/-- `HL <- v` (R13). -/
def State.setHl (s : State) (v : Word) : State := { s with h := hiByte v, l := loByte v }
/-- `AF <- v`: `A <- v[15:8]`, `F <- v[7:0] & 0xF0` (R14). -/
def State.setAf (s : State) (v : Word) : State := { s with a := hiByte v, f := loByte v &&& 0xF0 }

/-- `x[rp[p]]` (R84). -/
def State.rp (s : State) (r : Rp) : Word :=
  match r with
  | .bc => s.bc | .de => s.de | .hl => s.hl | .sp => s.sp

/-- `x[rp[p]] <- v` (R84). -/
def State.setRp (s : State) (r : Rp) (v : Word) : State :=
  match r with
  | .bc => s.setBc v | .de => s.setDe v | .hl => s.setHl v | .sp => { s with sp := v }

/-- `x[rp2[p]]` (R85). -/
def State.rp2 (s : State) (r : Rp2) : Word :=
  match r with
  | .bc => s.bc | .de => s.de | .hl => s.hl | .af => s.af

/-- `x[rp2[p]] <- v` (R85). -/
def State.setRp2 (s : State) (r : Rp2) (v : Word) : State :=
  match r with
  | .bc => s.setBc v | .de => s.setDe v | .hl => s.setHl v | .af => s.setAf v

/-- `timing <- class` (00_scope.md section 6, R306). -/
def State.setTiming (s : State) (t : Timing) : State := { s with report := .executed t }

/-! ### The memory the core backs -/

/-- The byte listed at a cell, if it has been written. -/
def Memory.read (m : Memory) (k : Nat) : Option Byte :=
  match m with
  | [] => none
  | (k', v) :: m => if k' = k then some v else Memory.read m k

/-- Write a cell, keeping the addresses strictly rising. -/
def Memory.write (m : Memory) (k : Nat) (v : Byte) : Memory :=
  match m with
  | [] => [(k, v)]
  | (k', v') :: m =>
    if k < k' then (k, v) :: (k', v') :: m
    else if k = k' then (k, v) :: m
    else (k', v') :: Memory.write m k v

/-- The canonical form: addresses strictly rising. An unlisted cell has no byte of its own at this level, so no entry can equal
what an unlisted cell reads as (log 4). -/
abbrev Memory.wf (m : Memory) : Prop := (m.map Prod.fst).Pairwise (· < ·)

/-- What an unlisted cell of RAM reads as: its free reset content (R33, R43). -/
def unlistedByte (k : Nat) : Byte := Config.ramReset k

/-- The byte of a RAM cell: "the byte last written to that cell ..., or the reset content ... if none was" (R43). -/
def State.ram (s : State) (k : Nat) : Byte := (Memory.read s.mem k).getD (unlistedByte k)

/-! ### The Memory Router (R41 to R54) -/

/-- What the router finds at an address: the rows of the dispatch table, those with one behaviour together. -/
inductive Route where
  /-- A RAM cell: working RAM (R43), its echo (R44) or high RAM (R51). -/
  | ram (cell : Nat)
  /-- A collaborator-owned region (R45, R47, R49). -/
  | collaborator (g : Region)
  /-- 0xFF0F (R46). -/
  | interruptFlags
  /-- 0xFFFF (R52). -/
  | interruptEnable
  /-- 0xFF4D (R48). -/
  | speedSwitch
  /-- 0xFF7F (R50). -/
  | tolerated
  /-- An address in no row of the document's table (R53). -/
  | outOfRange
deriving DecidableEq, Repr

/-- The dispatch table in address order: each test is the end of a row (R41, R54). -/
def route (addr : Word) : Route :=
  let n := addr.toNat
  if n ≤ 0x9FFF then .collaborator .cartRomVram
  else if n ≤ 0xBFFF then .collaborator .cartRam
  else if n ≤ 0xDFFF then .ram n
  else if n ≤ 0xFDFF then .ram (n - 0x2000)
  else if n ≤ 0xFEFF then .outOfRange
  else if n ≤ 0xFF00 then .collaborator .joypad
  else if n ≤ 0xFF02 then .collaborator .serial
  else if n ≤ 0xFF03 then .outOfRange
  else if n ≤ 0xFF07 then .collaborator .timer
  else if n ≤ 0xFF0E then .outOfRange
  else if n ≤ 0xFF0F then .interruptFlags
  else if n ≤ 0xFF3F then .collaborator .audio
  else if n ≤ 0xFF45 then .collaborator .ppu
  else if n ≤ 0xFF46 then .collaborator .oamDma
  else if n ≤ 0xFF4B then .collaborator .ppu
  else if n ≤ 0xFF4C then .outOfRange
  else if n ≤ 0xFF4D then .speedSwitch
  else if n ≤ 0xFF4E then .outOfRange
  else if n ≤ 0xFF4F then .collaborator .ppu
  else if n ≤ 0xFF67 then .outOfRange
  else if n ≤ 0xFF69 then .collaborator .ppu
  else if n ≤ 0xFF6F then .outOfRange
  else if n ≤ 0xFF70 then .collaborator .svbk
  else if n ≤ 0xFF7E then .outOfRange
  else if n ≤ 0xFF7F then .tolerated
  else if n ≤ 0xFFFE then .ram n
  else .interruptEnable

/-- `HANDLERS` has an entry for the region (R5, R45). -/
def State.hasHandler (s : State) (g : Region) : Bool := s.platform.handlers.contains g

/-- The state after a handler has been called. -/
def State.logCall (s : State) (g : Region) (addr : Word) (x : Access) : State :=
  { s with calls := { region := g, addr := addr, access := x } :: s.calls }

/-- What the handlers answer to the call just logged: the image's byte where the platform fixes one, else a free byte (R45). -/
def State.handlerByte (s : State) (addr : Word) : Byte :=
  (Memory.read s.platform.image addr.toNat).getD (Config.handlerAnswer s.calls)

/-- "collaborator read of addr in region G" (R45). DESIGN CHOICE (log 24): a handler that is installed always answers. -/
def handlerRead (g : Region) (addr : Word) (s : State) : Res (Byte × State) :=
  if s.hasHandler g then
    let t := s.logCall g addr .read
    .next (t.handlerByte addr, t)
  else raise (.notImplemented g addr .read) s

/-- "collaborator write of v to addr in region G" (R45). The handler changes no state of the core. DESIGN CHOICE (log 24): a handler
that is installed accepts every write; R217's "if the handler accepts the write" leaves open that one may not. -/
def handlerWrite (g : Region) (addr : Word) (v : Byte) (s : State) : Res State :=
  if s.hasHandler g then .next (s.logCall g addr (.write v))
  else raise (.notImplemented g addr (.write v)) s

/-- The capture that a write to 0xFF46 or 0xFF70 makes before the collaborator sees it (R47, R49). -/
def State.captureWrite (s : State) (g : Region) (v : Byte) : State :=
  match g with
  | .oamDma => { s with dmaLatch := v }
  | .svbk => { s with svbkLatch := v }
  | .cartRomVram | .cartRam | .joypad | .serial | .timer | .audio | .ppu => s

/-- `MemRead(addr, 1)` (R41). -/
def memRead (addr : Word) (s : State) : Res (Byte × State) :=
  match route addr with
  | .ram k => .next (s.ram k, s)
  | .collaborator g => handlerRead g addr s
  | .interruptFlags => .next (s.ifr, s)
  | .interruptEnable => .next (s.ie, s)
  | .speedSwitch => .next (0x00, s)
  | .tolerated => .next (Config.ff7fRead s.draws, { s with draws := s.draws + 1 })
  | .outOfRange => raise (.addressOutOfRange addr) s

/-- `MemWrite(addr, 1, v)` (R42). -/
def memWrite (addr : Word) (v : Byte) (s : State) : Res State :=
  match route addr with
  | .ram k => .next { s with mem := Memory.write s.mem k v }
  | .collaborator g => handlerWrite g addr v (s.captureWrite g v)
  | .interruptFlags => .next { s with ifr := v }
  | .interruptEnable => .next { s with ie := v }
  | .speedSwitch => .next s
  | .tolerated => .next s
  | .outOfRange => raise (.addressOutOfRange addr) s

/-- `MemWrite(addr, 2, v)`: low byte at `addr`, then high byte at `addr + 1` modulo 65536 (R57). -/
def memWrite16 (addr v : Word) (s : State) : Res State :=
  andThen (memWrite addr (loByte v) s) fun s => memWrite (addr + 1) (hiByte v) s

/-! ### Fetch, stack and zero page (R61 to R64) -/

/-- `Fetch8()` (R61). -/
def fetch8 (s : State) : Res (Byte × State) :=
  andThen (memRead s.pc s) fun (v, s) => .next (v, { s with pc := s.pc + 1 })

/-- `Fetch16()` (R61). -/
def fetch16 (s : State) : Res (Word × State) :=
  andThen (fetch8 s) fun (lo, s) =>
  andThen (fetch8 s) fun (hi, s) => .next (joinBytes lo hi, s)

/-- One half of a push: `sp <- sp - 1`, then the store (R62). -/
def pushByte (v : Byte) (s : State) : Res State :=
  memWrite (s.sp - 1) v { s with sp := s.sp - 1 }

/-- `Push16(v)`: high byte first (R62). -/
def push16 (v : Word) (s : State) : Res State :=
  andThen (pushByte (hiByte v) s) fun s => pushByte (loByte v) s

/-- One half of a pop: the load, then `sp <- sp + 1` (R63). -/
def popByte (s : State) : Res (Byte × State) :=
  andThen (memRead s.sp s) fun (v, s) => .next (v, { s with sp := s.sp + 1 })

/-- `Pop16()`: low byte first (R63). -/
def pop16 (s : State) : Res (Word × State) :=
  andThen (popByte s) fun (lo, s) =>
  andThen (popByte s) fun (hi, s) => .next (joinBytes lo hi, s)

/-- The zero-page address `0xFF00 + v` (R64). -/
def zeroPage (v : Byte) : Word := joinBytes v 0xFF

/-! ### Interrupts (60_exceptions.md section 3) -/

/-- The environment's action at a step boundary: `IF <- IF | m` for the next mask of its schedule (R74). -/
def State.raiseEnvironment (s : State) : State :=
  match s.envIrq with
  | [] => s
  | m :: rest => { s with ifr := s.ifr ||| m.zeroExtend 8, envIrq := rest }

/-- `pend = IE & IF & 0x1F` (R279). -/
def State.pend (s : State) : Byte := s.ie &&& s.ifr &&& 0x1F

/-- "if halted and any enabled-pending interrupt exists, clear halted" (R283). -/
def State.wake (s : State) : State :=
  if s.pend = 0 then s else { s with halted := false }

/-- The source to dispatch: the least bit set in `pend` (R281). -/
def lowestPending (pend : Byte) : Option (Fin 5) :=
  if pend.getLsbD 0 then some 0
  else if pend.getLsbD 1 then some 1
  else if pend.getLsbD 2 then some 2
  else if pend.getLsbD 3 then some 3
  else if pend.getLsbD 4 then some 4
  else none

/-- The source this step dispatches, if any: `IME` and a candidate (R270, R282). -/
def State.toDispatch (s : State) : Option (Fin 5) :=
  if s.ime then lowestPending s.pend else none

/-- The vector `0x0040 + 8 * n` (R24, R282). -/
def vectorOf (n : Fin 5) : Word := 0x0040 + 8 * BitVec.ofNat 16 n.val

/-- Taking an interrupt: IME and `ei_pending` cleared, the pending bit cleared, `pc` pushed, `pc` at the vector (R282). -/
def dispatchInterrupt (n : Fin 5) (s : State) : Res State :=
  let s := { s with ime := false, eiPending := false, ifr := s.ifr &&& ~~~(1#8 <<< n.val) }
  andThen (push16 s.pc s) fun s =>
    .next { s with pc := vectorOf n, report := .interruptDispatch n }

/-- The return from an interrupt: `pc <- Pop16(); IME <- true` (R250, R284). -/
def returnFromInterrupt (s : State) : Res State :=
  andThen (pop16 s) fun (v, s) => .next { s with pc := v, ime := true }

/-- `if ei_pending: IME <- true; ei_pending <- false` (R264, R270). -/
def State.applyPendingEi (s : State) : State :=
  if s.eiPending then { s with ime := true, eiPending := false } else s

/-- `reset()`, an event between steps that is no step: every piece of the core from `RESET`, `status` running again, also from
`Faulted` (R300). The platform, the environment's schedule and what handlers have been asked are outside the core and stay
(log 22). -/
def State.afterReset (s : State) : State :=
  { State.reset with platform := s.platform, envIrq := s.envIrq, calls := s.calls, draws := s.draws }

/-! ### Placing a byte from outside the machine -/

/-- Make a read of `addr` answer `v`: a RAM cell or an interrupt register takes the byte; a collaborator region gets a handler
whose image answers it (R302 item 1). An address whose read the spec fixes or refuses is left alone (log 11). -/
def State.placeByte (s : State) (addr : Word) (v : Byte) : State :=
  match route addr with
  | .ram k => { s with mem := Memory.write s.mem k v }
  | .collaborator g =>
    { s with platform := { s.platform with
        handlers := if s.hasHandler g then s.platform.handlers else g :: s.platform.handlers
        image := Memory.write s.platform.image addr.toNat v } }
  | .interruptFlags => { s with ifr := v }
  | .interruptEnable => { s with ie := v }
  | .speedSwitch | .tolerated | .outOfRange => s

/-- Place bytes at consecutive addresses modulo 65536. -/
def State.placeBytes (s : State) (addr : Word) (bytes : List Byte) : State :=
  match bytes with
  | [] => s
  | v :: rest => State.placeBytes (s.placeByte addr v) (addr + 1) rest

end Sys2Proof.Machine
end

