-- ==== Sys2Proof/Machine/Flags.lean ====
section
/-! DEFINITION. The flag register and every computation that sets it: the ALU functions (40_arith8.md, 41_logic8.md), the 16-bit
adds (42_arith16.md), DAA, and the eight rotate and shift functions (43_rotate_shift_bit.md). Arithmetic is on unbounded integers,
narrowed explicitly, as 00_scope.md section 6 prescribes. -/

namespace Sys2Proof.Machine

/-- The four flags (R12, R18). -/
structure Flags where
  z : Bool
  n : Bool
  h : Bool
  c : Bool
deriving DecidableEq, Repr

/-- The flag byte: Z N H C in bits 7 to 4, bits 3 to 0 zero (R12). -/
def Flags.toByte (fl : Flags) : Byte :=
  BitVec.ofBool fl.z ++ BitVec.ofBool fl.n ++ BitVec.ofBool fl.h ++ BitVec.ofBool fl.c ++ 0#4

/-- `F.Z`, `F.N`, `F.H`, `F.C` (R12). -/
def State.flags (s : State) : Flags :=
  { z := s.f.getLsbD 7, n := s.f.getLsbD 6, h := s.f.getLsbD 5, c := s.f.getLsbD 4 }

/-- `flags <- (z, n, h, c)`: all four at once, `F[3:0] = 0` (R19). -/
def State.setFlags (s : State) (fl : Flags) : State := { s with f := fl.toByte }

/-- `cond(cc)` (46_control.md rule R240). -/
def State.cond (s : State) (cc : Cond) : Bool :=
  match cc with
  | .nz => !s.flags.z
  | .z => s.flags.z
  | .nc => !s.flags.c
  | .c => s.flags.c

/-! ### 8-bit addition and subtraction -/

/-- `add8(a, b, cin)` (R110). -/
def add8 (a b : Byte) (cin : Bool) : Byte × Flags :=
  let sum := a.toNat + b.toNat + cin.toNat
  let res := BitVec.ofNat 8 sum
  (res, { z := decide (res = 0)
          n := false
          h := decide (a.toNat % 16 + b.toNat % 16 + cin.toNat > 0xF)
          c := decide (sum > 0xFF) })

/-- `sub8(a, b, cin)`: H and C are borrows (R111, 90_conflicts.md C3). -/
def sub8 (a b : Byte) (cin : Bool) : Byte × Flags :=
  let res := BitVec.ofInt 8 ((a.toNat : Int) - b.toNat - cin.toNat)
  (res, { z := decide (res = 0)
          n := true
          h := decide (a.toNat % 16 < b.toNat % 16 + cin.toNat)
          c := decide (a.toNat < b.toNat + cin.toNat) })

/-- The result and flags of an 8-bit operation on `A` (R112 to R126, R140 to R148). `cin` is `F.C`. -/
def aluResult (k : Alu) (a b : Byte) (cin : Bool) : Byte × Flags :=
  match k with
  | .add => add8 a b false
  | .adc => add8 a b cin
  | .sub => sub8 a b false
  | .sbc => sub8 a b cin
  | .and => (a &&& b, { z := decide (a &&& b = 0), n := false, h := true, c := false })
  | .xor => (a ^^^ b, { z := decide (a ^^^ b = 0), n := false, h := false, c := false })
  | .or => (a ||| b, { z := decide (a ||| b = 0), n := false, h := false, c := false })
  | .cp => sub8 a b false

/-- Does the operation write its result to `A`: every one but CP (R124). -/
def aluWritesA (k : Alu) : Bool :=
  match k with
  | .add | .adc | .sub | .sbc | .and | .xor | .or => true
  | .cp => false

/-- `INC` of an 8-bit value: C unchanged (R127). -/
def inc8 (v : Byte) (old : Flags) : Byte × Flags :=
  let res := BitVec.ofNat 8 (v.toNat + 1)
  (res, { z := decide (res = 0), n := false, h := decide (v.toNat % 16 = 0xF), c := old.c })

/-- `DEC` of an 8-bit value: C unchanged (R129). -/
def dec8 (v : Byte) (old : Flags) : Byte × Flags :=
  let res := BitVec.ofInt 8 ((v.toNat : Int) - 1)
  (res, { z := decide (res = 0), n := true, h := decide (v.toNat % 16 = 0), c := old.c })

/-- `DAA` (R131): N is kept, H cleared, C never cleared. -/
def daa (a : Byte) (old : Flags) : Byte × Flags :=
  let high := old.c || (!old.n && decide (a.toNat > 0x99))
  let low := old.h || (!old.n && decide (a.toNat % 16 > 9))
  let adjust : Nat := (if high then 0x60 else 0) + (if low then 0x06 else 0)
  let res := if old.n then BitVec.ofInt 8 ((a.toNat : Int) - adjust) else BitVec.ofNat 8 (a.toNat + adjust)
  (res, { z := decide (res = 0), n := old.n, h := false, c := high })

/-! ### 16-bit addition -/

/-- `ADD HL,rr`: Z kept, half-carry out of bit 11, carry out of bit 15 (R150). -/
def addHl16 (a b : Word) (old : Flags) : Word × Flags :=
  let sum := a.toNat + b.toNat
  (BitVec.ofNat 16 sum,
    { z := old.z
      n := false
      h := decide (a.toNat % 0x1000 + b.toNat % 0x1000 > 0x0FFF)
      c := decide (sum > 0xFFFF) })

/-- `addsp(e)`: H and C of the low byte as an unsigned addition, Z and N clear (R154). -/
def addsp (sp : Word) (e : Byte) : Word × Flags :=
  (sp + sext16 e,
    { z := false
      n := false
      h := decide (sp.toNat % 0x10 + e.toNat % 0x10 > 0x0F)
      c := decide (sp.toNat % 0x100 + e.toNat > 0xFF) })

/-! ### Rotates, shifts and SWAP: the result and the bit shifted out -/

/-- `rlc8` (R160). -/
def rlc8 (v : Byte) : Byte × Bool := (v <<< 1 ||| v >>> 7, v.getLsbD 7)
/-- `rrc8` (R161). -/
def rrc8 (v : Byte) : Byte × Bool := (v >>> 1 ||| v <<< 7, v.getLsbD 0)
/-- `rl8` (R162). -/
def rl8 (v : Byte) (cin : Bool) : Byte × Bool := (v <<< 1 ||| (BitVec.ofBool cin).zeroExtend 8, v.getLsbD 7)
/-- `rr8` (R163). -/
def rr8 (v : Byte) (cin : Bool) : Byte × Bool := (v >>> 1 ||| (BitVec.ofBool cin).zeroExtend 8 <<< 7, v.getLsbD 0)
/-- `sla8` (R164). -/
def sla8 (v : Byte) : Byte × Bool := (v <<< 1, v.getLsbD 7)
/-- `sra8` (R165). -/
def sra8 (v : Byte) : Byte × Bool := (v >>> 1 ||| (v &&& 0x80), v.getLsbD 0)
/-- `swap8`; no bit is shifted out and C is written 0 (R166). -/
def swap8 (v : Byte) : Byte × Bool := (v <<< 4 ||| v >>> 4, false)
/-- `srl8` (R167). -/
def srl8 (v : Byte) : Byte × Bool := (v >>> 1, v.getLsbD 0)

/-- The function a `rot` entry names (R88, R160 to R167); `cin` is `F.C`. -/
def rotFunction (k : Rot) (v : Byte) (cin : Bool) : Byte × Bool :=
  match k with
  | .rlc => rlc8 v
  | .rrc => rrc8 v
  | .rl => rl8 v cin
  | .rr => rr8 v cin
  | .sla => sla8 v
  | .sra => sra8 v
  | .swap => swap8 v
  | .srl => srl8 v

/-- The CB-table rotates: Z is the zero test of the result (43_rotate_shift_bit.md section 3). -/
def rotResult (k : Rot) (v : Byte) (old : Flags) : Byte × Flags :=
  let r := rotFunction k v old.c
  (r.1, { z := decide (r.1 = 0), n := false, h := false, c := r.2 })

/-- The accumulator rotates: Z is forced 0 (43_rotate_shift_bit.md section 2). -/
def rotAccResult (k : Rot) (v : Byte) (old : Flags) : Byte × Flags :=
  let r := rotFunction k v old.c
  (r.1, { z := false, n := false, h := false, c := r.2 })

/-- `BIT n`: Z is the complement of the bit, N 0, H 1, C kept (R188). -/
def bitFlags (n : Fin 8) (v : Byte) (old : Flags) : Flags :=
  { z := !v.getLsbD n.val, n := false, h := true, c := old.c }

/-- `RES n`: `v & ~(1 << n)` (R190). -/
def resBit (n : Fin 8) (v : Byte) : Byte := v &&& ~~~(1#8 <<< n.val)

/-- `SET n`: `v | (1 << n)` (R192). -/
def setBit (n : Fin 8) (v : Byte) : Byte := v ||| 1#8 <<< n.val

end Sys2Proof.Machine
end

