-- ==== Sys2Proof/Machine/Operands.lean ====
section
/-! DEFINITION. Every operand form of the instruction set (30_encoding.md rule R98), and the shapes instructions share: a load, an
operation on `A`, a read-modify-write, an operation on a pair. Each meaning is one call of these. -/

namespace Sys2Proof.Machine

/-- An 8-bit operand (R98). A wide register is no case of it, so the only capability it can lack is to be written (R39). -/
inductive Operand8 where
  /-- An 8-bit register. -/
  | reg (r : Reg8)
  /-- An immediate, already fetched (R89): never written. -/
  | imm (v : Byte)
  /-- `(BC)`. -/
  | indBc
  /-- `(DE)`. -/
  | indDe
  /-- `(HL)`. -/
  | indHl
  /-- `(HL+)`. -/
  | indHlInc
  /-- `(HL-)`. -/
  | indHlDec
  /-- `(a16)`. -/
  | indAddr (a : Word)
  /-- `(C)`, the zero page through a register (R64). -/
  | zeroPageC
  /-- `(a8)`, the zero page through an immediate (R64). -/
  | zeroPageImm (o : Byte)
deriving DecidableEq, Repr

/-- The operand an `r8` field selects (R83). -/
def Operand8.ofLoc (x : Loc) : Operand8 :=
  match x with
  | .reg r => .reg r
  | .indHl => .indHl

/-- Read an 8-bit operand; `(HL+)` and `(HL-)` step HL after the transfer (R98, R216, R218). -/
def readOperand8 (x : Operand8) (s : State) : Res (Byte × State) :=
  match x with
  | .reg r => .next (s.reg8 r, s)
  | .imm v => .next (v, s)
  | .indBc => memRead s.bc s
  | .indDe => memRead s.de s
  | .indHl => memRead s.hl s
  | .indHlInc => andThen (memRead s.hl s) fun (v, s) => .next (v, s.setHl (s.hl + 1))
  | .indHlDec => andThen (memRead s.hl s) fun (v, s) => .next (v, s.setHl (s.hl - 1))
  | .indAddr a => memRead a s
  | .zeroPageC => memRead (zeroPage s.c) s
  | .zeroPageImm o => memRead (zeroPage o) s

/-- Write an 8-bit operand; a write to an immediate is the capability error of R39 and R275. -/
def writeOperand8 (x : Operand8) (v : Byte) (s : State) : Res State :=
  match x with
  | .reg r => .next (s.setReg8 r v)
  | .imm _ => raise .operandCapability s
  | .indBc => memWrite s.bc v s
  | .indDe => memWrite s.de v s
  | .indHl => memWrite s.hl v s
  | .indHlInc => andThen (memWrite s.hl v s) fun s => .next (s.setHl (s.hl + 1))
  | .indHlDec => andThen (memWrite s.hl v s) fun s => .next (s.setHl (s.hl - 1))
  | .indAddr a => memWrite a v s
  | .zeroPageC => memWrite (zeroPage s.c) v s
  | .zeroPageImm o => memWrite (zeroPage o) v s

/-! ### Shapes of instructions -/

/-- `dst <- src`, no flag (44_load8.md). -/
def load8 (dst src : Operand8) (s : State) : Res State :=
  andThen (readOperand8 src s) fun (v, s) => writeOperand8 dst v s

/-- An operation on `A` and a value: flags, and `A` unless it is CP (R112 to R126, R140 to R148). -/
def State.applyAlu (s : State) (k : Alu) (v : Byte) : State :=
  let r := aluResult k s.a v s.flags.c
  { s with a := if aluWritesA k then r.1 else s.a, f := r.2.toByte }

/-- `op A,src`. -/
def alu8 (k : Alu) (src : Operand8) (s : State) : Res State :=
  andThen (readOperand8 src s) fun (v, s) => .next (s.applyAlu k v)

/-- Read, transform, write back, then set the flags, in that order (R127, R128, R173). -/
def modify8 (x : Operand8) (g : Byte → Flags → Byte × Flags) (s : State) : Res State :=
  andThen (readOperand8 x s) fun (v, s) =>
  andThen (writeOperand8 x (g v s.flags).1 s) fun t => .next (t.setFlags (g v s.flags).2)

/-- Read, transform, write back; no flag (R190 to R193). -/
def modify8NoFlags (x : Operand8) (g : Byte → Byte) (s : State) : Res State :=
  andThen (readOperand8 x s) fun (v, s) => writeOperand8 x (g v) s

/-- `timing <- class` after an instruction that ran. -/
def thenTiming (t : Timing) (r : Res State) : Res State :=
  andThen r fun s => .next (s.setTiming t)

/-- `ADD HL,rp` (R150). -/
def addHl (r : Rp) (s : State) : Res State :=
  let x := addHl16 s.hl (s.rp r) s.flags
  .next ((s.setHl x.1).setFlags x.2)

/-- `PUSH rp2` (R234). -/
def pushPair (r : Rp2) (s : State) : Res State := push16 (s.rp2 r) s

/-- `POP rp2`: the pair is written after both reads (R235, R236). -/
def popPair (r : Rp2) (s : State) : Res State :=
  andThen (pop16 s) fun (v, s) => .next (s.setRp2 r v)

/-- `pc <- target` (R252). -/
def jumpTo (target : Word) (s : State) : Res State := .next { s with pc := target }

/-- `pc <- pc + sext_16(e)` (R244). -/
def jumpBy (e : Byte) (s : State) : Res State := .next { s with pc := s.pc + sext16 e }

/-- `Push16(pc); pc <- target` (R246, R251). -/
def callTo (target : Word) (s : State) : Res State :=
  andThen (push16 s.pc s) fun s => .next { s with pc := target }

/-- `pc <- Pop16()` (R248). -/
def returnTo (s : State) : Res State :=
  andThen (pop16 s) fun (v, s) => .next { s with pc := v }

/-- `if cond(cc): transfer; timing <- ConditionalTaken`, else nothing (R242, R245, R247, R249). The condition is tested on the
flags as the instruction begins (R252). -/
def whenCond (cc : Cond) (transfer : State → Res State) (s : State) : Res State :=
  if s.cond cc then thenTiming .conditionalTaken (transfer s) else .next s

end Sys2Proof.Machine
end

