-- ==== Sys2Proof/Machine/Arith16.lean ====
section
/-! DEFINITION. 16-bit arithmetic (42_arith16.md). A meaning runs with `pc` already past its own bytes (R16, R89). -/

namespace Sys2Proof.Machine

/-- `ADD HL,BC` (R150). -/
def execAddHlBc (s : State) : Res State := addHl .bc s
/-- `INC BC` (R151). -/
def execIncBc (s : State) : Res State := .next (s.setRp .bc (s.rp .bc + 1))
/-- `DEC BC` (R152). -/
def execDecBc (s : State) : Res State := .next (s.setRp .bc (s.rp .bc - 1))
/-- `ADD HL,DE` (R150). -/
def execAddHlDe (s : State) : Res State := addHl .de s
/-- `INC DE` (R151). -/
def execIncDe (s : State) : Res State := .next (s.setRp .de (s.rp .de + 1))
/-- `DEC DE` (R152). -/
def execDecDe (s : State) : Res State := .next (s.setRp .de (s.rp .de - 1))
/-- `ADD HL,HL` (R150). -/
def execAddHlHl (s : State) : Res State := addHl .hl s
/-- `INC HL` (R151). -/
def execIncHl (s : State) : Res State := .next (s.setRp .hl (s.rp .hl + 1))
/-- `DEC HL` (R152). -/
def execDecHl (s : State) : Res State := .next (s.setRp .hl (s.rp .hl - 1))
/-- `ADD HL,SP` (R150). -/
def execAddHlSp (s : State) : Res State := addHl .sp s
/-- `INC SP` (R151). -/
def execIncSp (s : State) : Res State := .next (s.setRp .sp (s.rp .sp + 1))
/-- `DEC SP` (R152). -/
def execDecSp (s : State) : Res State := .next (s.setRp .sp (s.rp .sp - 1))
/-- `ADD SP,e8` (R153). -/
def execAddSpE8 (e : Byte) (s : State) : Res State := .next ({ s with sp := (addsp s.sp e).1 }.setFlags (addsp s.sp e).2)

end Sys2Proof.Machine
end

