-- ==== Sys2Proof/Machine/Arith8.lean ====
section
/-! DEFINITION. 8-bit arithmetic (40_arith8.md). A meaning runs with `pc` already past its own bytes (R16, R89). -/

namespace Sys2Proof.Machine

/-- `ADD A,B` (R112). -/
def execAddAB (s : State) : Res State := alu8 .add (.reg .b) s
/-- `ADD A,C` (R112). -/
def execAddAC (s : State) : Res State := alu8 .add (.reg .c) s
/-- `ADD A,D` (R112). -/
def execAddAD (s : State) : Res State := alu8 .add (.reg .d) s
/-- `ADD A,E` (R112). -/
def execAddAE (s : State) : Res State := alu8 .add (.reg .e) s
/-- `ADD A,H` (R112). -/
def execAddAH (s : State) : Res State := alu8 .add (.reg .h) s
/-- `ADD A,L` (R112). -/
def execAddAL (s : State) : Res State := alu8 .add (.reg .l) s
/-- `ADD A,(HL)` (R113). -/
def execAddAIndHl (s : State) : Res State := alu8 .add .indHl s
/-- `ADD A,A` (R112). -/
def execAddAA (s : State) : Res State := alu8 .add (.reg .a) s
/-- `ADD A,d8` (R114). -/
def execAddAD8 (d : Byte) (s : State) : Res State := alu8 .add (.imm d) s
/-- `ADC A,B` (R115). -/
def execAdcAB (s : State) : Res State := alu8 .adc (.reg .b) s
/-- `ADC A,C` (R115). -/
def execAdcAC (s : State) : Res State := alu8 .adc (.reg .c) s
/-- `ADC A,D` (R115). -/
def execAdcAD (s : State) : Res State := alu8 .adc (.reg .d) s
/-- `ADC A,E` (R115). -/
def execAdcAE (s : State) : Res State := alu8 .adc (.reg .e) s
/-- `ADC A,H` (R115). -/
def execAdcAH (s : State) : Res State := alu8 .adc (.reg .h) s
/-- `ADC A,L` (R115). -/
def execAdcAL (s : State) : Res State := alu8 .adc (.reg .l) s
/-- `ADC A,(HL)` (R116). -/
def execAdcAIndHl (s : State) : Res State := alu8 .adc .indHl s
/-- `ADC A,A` (R115). -/
def execAdcAA (s : State) : Res State := alu8 .adc (.reg .a) s
/-- `ADC A,d8` (R117). -/
def execAdcAD8 (d : Byte) (s : State) : Res State := alu8 .adc (.imm d) s
/-- `SUB B` (R118). -/
def execSubB (s : State) : Res State := alu8 .sub (.reg .b) s
/-- `SUB C` (R118). -/
def execSubC (s : State) : Res State := alu8 .sub (.reg .c) s
/-- `SUB D` (R118). -/
def execSubD (s : State) : Res State := alu8 .sub (.reg .d) s
/-- `SUB E` (R118). -/
def execSubE (s : State) : Res State := alu8 .sub (.reg .e) s
/-- `SUB H` (R118). -/
def execSubH (s : State) : Res State := alu8 .sub (.reg .h) s
/-- `SUB L` (R118). -/
def execSubL (s : State) : Res State := alu8 .sub (.reg .l) s
/-- `SUB (HL)` (R119). -/
def execSubIndHl (s : State) : Res State := alu8 .sub .indHl s
/-- `SUB A` (R118). -/
def execSubA (s : State) : Res State := alu8 .sub (.reg .a) s
/-- `SUB d8` (R120). -/
def execSubD8 (d : Byte) (s : State) : Res State := alu8 .sub (.imm d) s
/-- `SBC A,B` (R121). -/
def execSbcAB (s : State) : Res State := alu8 .sbc (.reg .b) s
/-- `SBC A,C` (R121). -/
def execSbcAC (s : State) : Res State := alu8 .sbc (.reg .c) s
/-- `SBC A,D` (R121). -/
def execSbcAD (s : State) : Res State := alu8 .sbc (.reg .d) s
/-- `SBC A,E` (R121). -/
def execSbcAE (s : State) : Res State := alu8 .sbc (.reg .e) s
/-- `SBC A,H` (R121). -/
def execSbcAH (s : State) : Res State := alu8 .sbc (.reg .h) s
/-- `SBC A,L` (R121). -/
def execSbcAL (s : State) : Res State := alu8 .sbc (.reg .l) s
/-- `SBC A,(HL)` (R122). -/
def execSbcAIndHl (s : State) : Res State := alu8 .sbc .indHl s
/-- `SBC A,A` (R121). -/
def execSbcAA (s : State) : Res State := alu8 .sbc (.reg .a) s
/-- `SBC A,d8` (R123). -/
def execSbcAD8 (d : Byte) (s : State) : Res State := alu8 .sbc (.imm d) s
/-- `CP B` (R124). -/
def execCpB (s : State) : Res State := alu8 .cp (.reg .b) s
/-- `CP C` (R124). -/
def execCpC (s : State) : Res State := alu8 .cp (.reg .c) s
/-- `CP D` (R124). -/
def execCpD (s : State) : Res State := alu8 .cp (.reg .d) s
/-- `CP E` (R124). -/
def execCpE (s : State) : Res State := alu8 .cp (.reg .e) s
/-- `CP H` (R124). -/
def execCpH (s : State) : Res State := alu8 .cp (.reg .h) s
/-- `CP L` (R124). -/
def execCpL (s : State) : Res State := alu8 .cp (.reg .l) s
/-- `CP (HL)` (R125). -/
def execCpIndHl (s : State) : Res State := alu8 .cp .indHl s
/-- `CP A` (R124). -/
def execCpA (s : State) : Res State := alu8 .cp (.reg .a) s
/-- `CP d8` (R126). -/
def execCpD8 (d : Byte) (s : State) : Res State := alu8 .cp (.imm d) s
/-- `INC B` (R127). -/
def execIncB (s : State) : Res State := modify8 (.reg .b) inc8 s
/-- `DEC B` (R129). -/
def execDecB (s : State) : Res State := modify8 (.reg .b) dec8 s
/-- `INC C` (R127). -/
def execIncC (s : State) : Res State := modify8 (.reg .c) inc8 s
/-- `DEC C` (R129). -/
def execDecC (s : State) : Res State := modify8 (.reg .c) dec8 s
/-- `INC D` (R127). -/
def execIncD (s : State) : Res State := modify8 (.reg .d) inc8 s
/-- `DEC D` (R129). -/
def execDecD (s : State) : Res State := modify8 (.reg .d) dec8 s
/-- `INC E` (R127). -/
def execIncE (s : State) : Res State := modify8 (.reg .e) inc8 s
/-- `DEC E` (R129). -/
def execDecE (s : State) : Res State := modify8 (.reg .e) dec8 s
/-- `INC H` (R127). -/
def execIncH (s : State) : Res State := modify8 (.reg .h) inc8 s
/-- `DEC H` (R129). -/
def execDecH (s : State) : Res State := modify8 (.reg .h) dec8 s
/-- `INC L` (R127). -/
def execIncL (s : State) : Res State := modify8 (.reg .l) inc8 s
/-- `DEC L` (R129). -/
def execDecL (s : State) : Res State := modify8 (.reg .l) dec8 s
/-- `INC (HL)` (R128). -/
def execIncIndHl (s : State) : Res State := modify8 .indHl inc8 s
/-- `DEC (HL)` (R130). -/
def execDecIndHl (s : State) : Res State := modify8 .indHl dec8 s
/-- `INC A` (R127). -/
def execIncA (s : State) : Res State := modify8 (.reg .a) inc8 s
/-- `DEC A` (R129). -/
def execDecA (s : State) : Res State := modify8 (.reg .a) dec8 s
/-- `DAA` (R131). -/
def execDaa (s : State) : Res State := modify8 (.reg .a) daa s
/-- `SCF` (R132). -/
def execScf (s : State) : Res State := .next (s.setFlags { s.flags with n := false, h := false, c := true })
/-- `CCF` (R133). -/
def execCcf (s : State) : Res State := .next (s.setFlags { s.flags with n := false, h := false, c := !s.flags.c })

end Sys2Proof.Machine
end

