-- ==== Sys2Proof/Machine/Control.lean ====
section
/-! DEFINITION. Control transfer (46_control.md): no flag changes. A meaning runs with `pc` already past its own bytes (R16, R89). -/

namespace Sys2Proof.Machine

/-- `JP a16` (R241). -/
def execJpA16 (a : Word) (s : State) : Res State := jumpTo a s
/-- `JP HL` (R243). -/
def execJpHl (s : State) : Res State := jumpTo s.hl s
/-- `JR e8` (R244). -/
def execJrE8 (e : Byte) (s : State) : Res State := jumpBy e s
/-- `CALL a16` (R246). -/
def execCallA16 (a : Word) (s : State) : Res State := callTo a s
/-- `RET` (R248). -/
def execRet (s : State) : Res State := returnTo s
/-- `RETI` (R250). -/
def execReti (s : State) : Res State := returnFromInterrupt s
/-- `JP NZ,a16` (R242). -/
def execJpNzA16 (a : Word) (s : State) : Res State := whenCond .nz (jumpTo a) s
/-- `JR NZ,e8` (R245). -/
def execJrNzE8 (e : Byte) (s : State) : Res State := whenCond .nz (jumpBy e) s
/-- `CALL NZ,a16` (R247). -/
def execCallNzA16 (a : Word) (s : State) : Res State := whenCond .nz (callTo a) s
/-- `RET NZ` (R249). -/
def execRetNz (s : State) : Res State := whenCond .nz returnTo s
/-- `JP Z,a16` (R242). -/
def execJpZA16 (a : Word) (s : State) : Res State := whenCond .z (jumpTo a) s
/-- `JR Z,e8` (R245). -/
def execJrZE8 (e : Byte) (s : State) : Res State := whenCond .z (jumpBy e) s
/-- `CALL Z,a16` (R247). -/
def execCallZA16 (a : Word) (s : State) : Res State := whenCond .z (callTo a) s
/-- `RET Z` (R249). -/
def execRetZ (s : State) : Res State := whenCond .z returnTo s
/-- `JP NC,a16` (R242). -/
def execJpNcA16 (a : Word) (s : State) : Res State := whenCond .nc (jumpTo a) s
/-- `JR NC,e8` (R245). -/
def execJrNcE8 (e : Byte) (s : State) : Res State := whenCond .nc (jumpBy e) s
/-- `CALL NC,a16` (R247). -/
def execCallNcA16 (a : Word) (s : State) : Res State := whenCond .nc (callTo a) s
/-- `RET NC` (R249). -/
def execRetNc (s : State) : Res State := whenCond .nc returnTo s
/-- `JP C,a16` (R242). -/
def execJpCA16 (a : Word) (s : State) : Res State := whenCond .c (jumpTo a) s
/-- `JR C,e8` (R245). -/
def execJrCE8 (e : Byte) (s : State) : Res State := whenCond .c (jumpBy e) s
/-- `CALL C,a16` (R247). -/
def execCallCA16 (a : Word) (s : State) : Res State := whenCond .c (callTo a) s
/-- `RET C` (R249). -/
def execRetC (s : State) : Res State := whenCond .c returnTo s
/-- `RST 00H` (R251). -/
def execRst00 (s : State) : Res State := callTo 0x0000 s
/-- `RST 08H` (R251). -/
def execRst08 (s : State) : Res State := callTo 0x0008 s
/-- `RST 10H` (R251). -/
def execRst10 (s : State) : Res State := callTo 0x0010 s
/-- `RST 18H` (R251). -/
def execRst18 (s : State) : Res State := callTo 0x0018 s
/-- `RST 20H` (R251). -/
def execRst20 (s : State) : Res State := callTo 0x0020 s
/-- `RST 28H` (R251). -/
def execRst28 (s : State) : Res State := callTo 0x0028 s
/-- `RST 30H` (R251). -/
def execRst30 (s : State) : Res State := callTo 0x0030 s
/-- `RST 38H` (R251). -/
def execRst38 (s : State) : Res State := callTo 0x0038 s

end Sys2Proof.Machine
end

