-- ==== Sys2Proof/Machine/Load16.lean ====
section
/-! DEFINITION. 16-bit loads and stack instructions (45_load16_stack.md). A meaning runs with `pc` already past its own bytes (R16, R89). -/

namespace Sys2Proof.Machine

/-- `LD BC,d16` (R230). -/
def execLdBcD16 (d : Word) (s : State) : Res State := .next (s.setRp .bc d)
/-- `PUSH BC` (R234). -/
def execPushBc (s : State) : Res State := pushPair .bc s
/-- `POP BC` (R235). -/
def execPopBc (s : State) : Res State := popPair .bc s
/-- `LD DE,d16` (R230). -/
def execLdDeD16 (d : Word) (s : State) : Res State := .next (s.setRp .de d)
/-- `PUSH DE` (R234). -/
def execPushDe (s : State) : Res State := pushPair .de s
/-- `POP DE` (R235). -/
def execPopDe (s : State) : Res State := popPair .de s
/-- `LD HL,d16` (R230). -/
def execLdHlD16 (d : Word) (s : State) : Res State := .next (s.setRp .hl d)
/-- `PUSH HL` (R234). -/
def execPushHl (s : State) : Res State := pushPair .hl s
/-- `POP HL` (R235). -/
def execPopHl (s : State) : Res State := popPair .hl s
/-- `LD SP,d16` (R230). -/
def execLdSpD16 (d : Word) (s : State) : Res State := .next (s.setRp .sp d)
/-- `PUSH AF` (R234). -/
def execPushAf (s : State) : Res State := pushPair .af s
/-- `POP AF` (R236). -/
def execPopAf (s : State) : Res State := popPair .af s
/-- `LD (a16),SP` (R231). -/
def execLdIndA16Sp (a : Word) (s : State) : Res State := memWrite16 a s.sp s
/-- `LD SP,HL` (R232). -/
def execLdSpHl (s : State) : Res State := .next { s with sp := s.hl }
/-- `LD HL,SP+e8` (R233). -/
def execLdHlSpE8 (e : Byte) (s : State) : Res State := .next ((s.setHl (addsp s.sp e).1).setFlags (addsp s.sp e).2)

end Sys2Proof.Machine
end

