-- ==== Sys2Proof/Machine/Load8.lean ====
section
/-! DEFINITION. 8-bit loads and stores (44_load8.md): no flag changes. A meaning runs with `pc` already past its own bytes (R16, R89). -/

namespace Sys2Proof.Machine

/-- `LD B,B` (R200). -/
def execLdBB (s : State) : Res State := load8 (.reg .b) (.reg .b) s
/-- `LD B,C` (R200). -/
def execLdBC (s : State) : Res State := load8 (.reg .b) (.reg .c) s
/-- `LD B,D` (R200). -/
def execLdBD (s : State) : Res State := load8 (.reg .b) (.reg .d) s
/-- `LD B,E` (R200). -/
def execLdBE (s : State) : Res State := load8 (.reg .b) (.reg .e) s
/-- `LD B,H` (R200). -/
def execLdBH (s : State) : Res State := load8 (.reg .b) (.reg .h) s
/-- `LD B,L` (R200). -/
def execLdBL (s : State) : Res State := load8 (.reg .b) (.reg .l) s
/-- `LD B,(HL)` (R202). -/
def execLdBIndHl (s : State) : Res State := load8 (.reg .b) .indHl s
/-- `LD B,A` (R200). -/
def execLdBA (s : State) : Res State := load8 (.reg .b) (.reg .a) s
/-- `LD B,d8` (R201). -/
def execLdBD8 (d : Byte) (s : State) : Res State := load8 (.reg .b) (.imm d) s
/-- `LD C,B` (R200). -/
def execLdCB (s : State) : Res State := load8 (.reg .c) (.reg .b) s
/-- `LD C,C` (R200). -/
def execLdCC (s : State) : Res State := load8 (.reg .c) (.reg .c) s
/-- `LD C,D` (R200). -/
def execLdCD (s : State) : Res State := load8 (.reg .c) (.reg .d) s
/-- `LD C,E` (R200). -/
def execLdCE (s : State) : Res State := load8 (.reg .c) (.reg .e) s
/-- `LD C,H` (R200). -/
def execLdCH (s : State) : Res State := load8 (.reg .c) (.reg .h) s
/-- `LD C,L` (R200). -/
def execLdCL (s : State) : Res State := load8 (.reg .c) (.reg .l) s
/-- `LD C,(HL)` (R202). -/
def execLdCIndHl (s : State) : Res State := load8 (.reg .c) .indHl s
/-- `LD C,A` (R200). -/
def execLdCA (s : State) : Res State := load8 (.reg .c) (.reg .a) s
/-- `LD C,d8` (R201). -/
def execLdCD8 (d : Byte) (s : State) : Res State := load8 (.reg .c) (.imm d) s
/-- `LD D,B` (R200). -/
def execLdDB (s : State) : Res State := load8 (.reg .d) (.reg .b) s
/-- `LD D,C` (R200). -/
def execLdDC (s : State) : Res State := load8 (.reg .d) (.reg .c) s
/-- `LD D,D` (R200). -/
def execLdDD (s : State) : Res State := load8 (.reg .d) (.reg .d) s
/-- `LD D,E` (R200). -/
def execLdDE (s : State) : Res State := load8 (.reg .d) (.reg .e) s
/-- `LD D,H` (R200). -/
def execLdDH (s : State) : Res State := load8 (.reg .d) (.reg .h) s
/-- `LD D,L` (R200). -/
def execLdDL (s : State) : Res State := load8 (.reg .d) (.reg .l) s
/-- `LD D,(HL)` (R202). -/
def execLdDIndHl (s : State) : Res State := load8 (.reg .d) .indHl s
/-- `LD D,A` (R200). -/
def execLdDA (s : State) : Res State := load8 (.reg .d) (.reg .a) s
/-- `LD D,d8` (R201). -/
def execLdDD8 (d : Byte) (s : State) : Res State := load8 (.reg .d) (.imm d) s
/-- `LD E,B` (R200). -/
def execLdEB (s : State) : Res State := load8 (.reg .e) (.reg .b) s
/-- `LD E,C` (R200). -/
def execLdEC (s : State) : Res State := load8 (.reg .e) (.reg .c) s
/-- `LD E,D` (R200). -/
def execLdED (s : State) : Res State := load8 (.reg .e) (.reg .d) s
/-- `LD E,E` (R200). -/
def execLdEE (s : State) : Res State := load8 (.reg .e) (.reg .e) s
/-- `LD E,H` (R200). -/
def execLdEH (s : State) : Res State := load8 (.reg .e) (.reg .h) s
/-- `LD E,L` (R200). -/
def execLdEL (s : State) : Res State := load8 (.reg .e) (.reg .l) s
/-- `LD E,(HL)` (R202). -/
def execLdEIndHl (s : State) : Res State := load8 (.reg .e) .indHl s
/-- `LD E,A` (R200). -/
def execLdEA (s : State) : Res State := load8 (.reg .e) (.reg .a) s
/-- `LD E,d8` (R201). -/
def execLdED8 (d : Byte) (s : State) : Res State := load8 (.reg .e) (.imm d) s
/-- `LD H,B` (R200). -/
def execLdHB (s : State) : Res State := load8 (.reg .h) (.reg .b) s
/-- `LD H,C` (R200). -/
def execLdHC (s : State) : Res State := load8 (.reg .h) (.reg .c) s
/-- `LD H,D` (R200). -/
def execLdHD (s : State) : Res State := load8 (.reg .h) (.reg .d) s
/-- `LD H,E` (R200). -/
def execLdHE (s : State) : Res State := load8 (.reg .h) (.reg .e) s
/-- `LD H,H` (R200). -/
def execLdHH (s : State) : Res State := load8 (.reg .h) (.reg .h) s
/-- `LD H,L` (R200). -/
def execLdHL (s : State) : Res State := load8 (.reg .h) (.reg .l) s
/-- `LD H,(HL)` (R202). -/
def execLdHIndHl (s : State) : Res State := load8 (.reg .h) .indHl s
/-- `LD H,A` (R200). -/
def execLdHA (s : State) : Res State := load8 (.reg .h) (.reg .a) s
/-- `LD H,d8` (R201). -/
def execLdHD8 (d : Byte) (s : State) : Res State := load8 (.reg .h) (.imm d) s
/-- `LD L,B` (R200). -/
def execLdLB (s : State) : Res State := load8 (.reg .l) (.reg .b) s
/-- `LD L,C` (R200). -/
def execLdLC (s : State) : Res State := load8 (.reg .l) (.reg .c) s
/-- `LD L,D` (R200). -/
def execLdLD (s : State) : Res State := load8 (.reg .l) (.reg .d) s
/-- `LD L,E` (R200). -/
def execLdLE (s : State) : Res State := load8 (.reg .l) (.reg .e) s
/-- `LD L,H` (R200). -/
def execLdLH (s : State) : Res State := load8 (.reg .l) (.reg .h) s
/-- `LD L,L` (R200). -/
def execLdLL (s : State) : Res State := load8 (.reg .l) (.reg .l) s
/-- `LD L,(HL)` (R202). -/
def execLdLIndHl (s : State) : Res State := load8 (.reg .l) .indHl s
/-- `LD L,A` (R200). -/
def execLdLA (s : State) : Res State := load8 (.reg .l) (.reg .a) s
/-- `LD L,d8` (R201). -/
def execLdLD8 (d : Byte) (s : State) : Res State := load8 (.reg .l) (.imm d) s
/-- `LD (HL),B` (R203). -/
def execLdIndHlB (s : State) : Res State := load8 .indHl (.reg .b) s
/-- `LD (HL),C` (R203). -/
def execLdIndHlC (s : State) : Res State := load8 .indHl (.reg .c) s
/-- `LD (HL),D` (R203). -/
def execLdIndHlD (s : State) : Res State := load8 .indHl (.reg .d) s
/-- `LD (HL),E` (R203). -/
def execLdIndHlE (s : State) : Res State := load8 .indHl (.reg .e) s
/-- `LD (HL),H` (R203). -/
def execLdIndHlH (s : State) : Res State := load8 .indHl (.reg .h) s
/-- `LD (HL),L` (R203). -/
def execLdIndHlL (s : State) : Res State := load8 .indHl (.reg .l) s
/-- `LD (HL),A` (R203). -/
def execLdIndHlA (s : State) : Res State := load8 .indHl (.reg .a) s
/-- `LD (HL),d8` (R204). -/
def execLdIndHlD8 (d : Byte) (s : State) : Res State := load8 .indHl (.imm d) s
/-- `LD A,B` (R200). -/
def execLdAB (s : State) : Res State := load8 (.reg .a) (.reg .b) s
/-- `LD A,C` (R200). -/
def execLdAC (s : State) : Res State := load8 (.reg .a) (.reg .c) s
/-- `LD A,D` (R200). -/
def execLdAD (s : State) : Res State := load8 (.reg .a) (.reg .d) s
/-- `LD A,E` (R200). -/
def execLdAE (s : State) : Res State := load8 (.reg .a) (.reg .e) s
/-- `LD A,H` (R200). -/
def execLdAH (s : State) : Res State := load8 (.reg .a) (.reg .h) s
/-- `LD A,L` (R200). -/
def execLdAL (s : State) : Res State := load8 (.reg .a) (.reg .l) s
/-- `LD A,(HL)` (R202). -/
def execLdAIndHl (s : State) : Res State := load8 (.reg .a) .indHl s
/-- `LD A,A` (R200). -/
def execLdAA (s : State) : Res State := load8 (.reg .a) (.reg .a) s
/-- `LD A,d8` (R201). -/
def execLdAD8 (d : Byte) (s : State) : Res State := load8 (.reg .a) (.imm d) s
/-- `LD A,(BC)` (R205). -/
def execLdAIndBc (s : State) : Res State := load8 (.reg .a) .indBc s
/-- `LD A,(DE)` (R206). -/
def execLdAIndDe (s : State) : Res State := load8 (.reg .a) .indDe s
/-- `LD (BC),A` (R207). -/
def execLdIndBcA (s : State) : Res State := load8 .indBc (.reg .a) s
/-- `LD (DE),A` (R208). -/
def execLdIndDeA (s : State) : Res State := load8 .indDe (.reg .a) s
/-- `LD A,(a16)` (R209). -/
def execLdAIndA16 (a : Word) (s : State) : Res State := load8 (.reg .a) (.indAddr a) s
/-- `LD (a16),A` (R210). -/
def execLdIndA16A (a : Word) (s : State) : Res State := load8 (.indAddr a) (.reg .a) s
/-- `LDH A,(a8)` (R211). -/
def execLdhAIndA8 (o : Byte) (s : State) : Res State := load8 (.reg .a) (.zeroPageImm o) s
/-- `LDH (a8),A` (R212). -/
def execLdhIndA8A (o : Byte) (s : State) : Res State := load8 (.zeroPageImm o) (.reg .a) s
/-- `LD A,(C)` (R213). -/
def execLdAIndC (s : State) : Res State := load8 (.reg .a) .zeroPageC s
/-- `LD (C),A` (R214). -/
def execLdIndCA (s : State) : Res State := load8 .zeroPageC (.reg .a) s
/-- `LD (HL+),A` (R215). -/
def execLdIndHlIncA (s : State) : Res State := load8 .indHlInc (.reg .a) s
/-- `LD A,(HL+)` (R216). -/
def execLdAIndHlInc (s : State) : Res State := load8 (.reg .a) .indHlInc s
/-- `LD (HL-),A` (R217). -/
def execLdIndHlDecA (s : State) : Res State := load8 .indHlDec (.reg .a) s
/-- `LD A,(HL-)` (R218). -/
def execLdAIndHlDec (s : State) : Res State := load8 (.reg .a) .indHlDec s

end Sys2Proof.Machine
end

