-- ==== Sys2Proof/Machine/Logic8.lean ====
section
/-! DEFINITION. 8-bit logic (41_logic8.md). A meaning runs with `pc` already past its own bytes (R16, R89). -/

namespace Sys2Proof.Machine

/-- `AND B` (R140). -/
def execAndB (s : State) : Res State := alu8 .and (.reg .b) s
/-- `AND C` (R140). -/
def execAndC (s : State) : Res State := alu8 .and (.reg .c) s
/-- `AND D` (R140). -/
def execAndD (s : State) : Res State := alu8 .and (.reg .d) s
/-- `AND E` (R140). -/
def execAndE (s : State) : Res State := alu8 .and (.reg .e) s
/-- `AND H` (R140). -/
def execAndH (s : State) : Res State := alu8 .and (.reg .h) s
/-- `AND L` (R140). -/
def execAndL (s : State) : Res State := alu8 .and (.reg .l) s
/-- `AND (HL)` (R141). -/
def execAndIndHl (s : State) : Res State := alu8 .and .indHl s
/-- `AND A` (R140). -/
def execAndA (s : State) : Res State := alu8 .and (.reg .a) s
/-- `AND d8` (R142). -/
def execAndD8 (d : Byte) (s : State) : Res State := alu8 .and (.imm d) s
/-- `XOR B` (R143). -/
def execXorB (s : State) : Res State := alu8 .xor (.reg .b) s
/-- `XOR C` (R143). -/
def execXorC (s : State) : Res State := alu8 .xor (.reg .c) s
/-- `XOR D` (R143). -/
def execXorD (s : State) : Res State := alu8 .xor (.reg .d) s
/-- `XOR E` (R143). -/
def execXorE (s : State) : Res State := alu8 .xor (.reg .e) s
/-- `XOR H` (R143). -/
def execXorH (s : State) : Res State := alu8 .xor (.reg .h) s
/-- `XOR L` (R143). -/
def execXorL (s : State) : Res State := alu8 .xor (.reg .l) s
/-- `XOR (HL)` (R144). -/
def execXorIndHl (s : State) : Res State := alu8 .xor .indHl s
/-- `XOR A` (R143). -/
def execXorA (s : State) : Res State := alu8 .xor (.reg .a) s
/-- `XOR d8` (R145). -/
def execXorD8 (d : Byte) (s : State) : Res State := alu8 .xor (.imm d) s
/-- `OR B` (R146). -/
def execOrB (s : State) : Res State := alu8 .or (.reg .b) s
/-- `OR C` (R146). -/
def execOrC (s : State) : Res State := alu8 .or (.reg .c) s
/-- `OR D` (R146). -/
def execOrD (s : State) : Res State := alu8 .or (.reg .d) s
/-- `OR E` (R146). -/
def execOrE (s : State) : Res State := alu8 .or (.reg .e) s
/-- `OR H` (R146). -/
def execOrH (s : State) : Res State := alu8 .or (.reg .h) s
/-- `OR L` (R146). -/
def execOrL (s : State) : Res State := alu8 .or (.reg .l) s
/-- `OR (HL)` (R147). -/
def execOrIndHl (s : State) : Res State := alu8 .or .indHl s
/-- `OR A` (R146). -/
def execOrA (s : State) : Res State := alu8 .or (.reg .a) s
/-- `OR d8` (R148). -/
def execOrD8 (d : Byte) (s : State) : Res State := alu8 .or (.imm d) s
/-- `CPL` (R149). -/
def execCpl (s : State) : Res State := .next ({ s with a := s.a ^^^ 0xFF }.setFlags { s.flags with n := true, h := true })

end Sys2Proof.Machine
end

