-- ==== Sys2Proof/Machine/Timing.lean ====
section
/-! DEFINITION. Costs (70_reset_and_hazards.md rules R306 to R308). No rule of state depends on a number here; UNVERIFIED (log 12):
the spec marks every number as general knowledge. -/

namespace Sys2Proof.Machine

/-- The cost in `ExtendedCB(cost)` of a CB instruction that writes back: 8 for a register, 16 for `(HL)` (R172, R173). -/
def cbCost (x : Loc) : Nat :=
  match x with
  | .reg _ => 8
  | .indHl => 16

/-- The cost of `BIT n`: 8 for a register, 12 for `(HL)`, which is not written back (R188, R189). -/
def cbBitCost (x : Loc) : Nat :=
  match x with
  | .reg _ => 8
  | .indHl => 12

/-- The `Default` cost table, indexed by the opcode byte; none for an unassigned byte and the prefix (R307). -/
def cyclesDefault : List (Option Nat) :=
  [some 4, some 12, some 8, some 8, some 4, some 4, some 8, some 4, some 20, some 8, some 8, some 8, some 4, some 4, some 8, some 4] ++
  [some 4, some 12, some 8, some 8, some 4, some 4, some 8, some 4, some 12, some 8, some 8, some 8, some 4, some 4, some 8, some 4] ++
  [some 8, some 12, some 8, some 8, some 4, some 4, some 8, some 4, some 8, some 8, some 8, some 8, some 4, some 4, some 8, some 4] ++
  [some 8, some 12, some 8, some 8, some 12, some 12, some 12, some 4, some 8, some 8, some 8, some 8, some 4, some 4, some 8, some 4] ++
  [some 4, some 4, some 4, some 4, some 4, some 4, some 8, some 4, some 4, some 4, some 4, some 4, some 4, some 4, some 8, some 4] ++
  [some 4, some 4, some 4, some 4, some 4, some 4, some 8, some 4, some 4, some 4, some 4, some 4, some 4, some 4, some 8, some 4] ++
  [some 4, some 4, some 4, some 4, some 4, some 4, some 8, some 4, some 4, some 4, some 4, some 4, some 4, some 4, some 8, some 4] ++
  [some 8, some 8, some 8, some 8, some 8, some 8, some 4, some 8, some 4, some 4, some 4, some 4, some 4, some 4, some 8, some 4] ++
  [some 4, some 4, some 4, some 4, some 4, some 4, some 8, some 4, some 4, some 4, some 4, some 4, some 4, some 4, some 8, some 4] ++
  [some 4, some 4, some 4, some 4, some 4, some 4, some 8, some 4, some 4, some 4, some 4, some 4, some 4, some 4, some 8, some 4] ++
  [some 4, some 4, some 4, some 4, some 4, some 4, some 8, some 4, some 4, some 4, some 4, some 4, some 4, some 4, some 8, some 4] ++
  [some 4, some 4, some 4, some 4, some 4, some 4, some 8, some 4, some 4, some 4, some 4, some 4, some 4, some 4, some 8, some 4] ++
  [some 8, some 12, some 12, some 16, some 12, some 16, some 8, some 16, some 8, some 16, some 12, none, some 12, some 24, some 8, some 16] ++
  [some 8, some 12, some 12, none, some 12, some 16, some 8, some 16, some 8, some 16, some 12, none, some 12, none, some 8, some 16] ++
  [some 12, some 12, some 8, none, none, some 16, some 8, some 16, some 16, some 4, some 16, none, none, none, some 8, some 16] ++
  [some 12, some 12, some 8, some 4, none, some 16, some 8, some 16, some 12, some 8, some 16, some 4, none, none, some 8, some 16]

/-- The `ConditionalTaken` cost table: an entry for each conditional transfer (R307). -/
def cyclesTaken : List (Option Nat) :=
  [none, none, none, none, none, none, none, none, none, none, none, none, none, none, none, none] ++
  [none, none, none, none, none, none, none, none, none, none, none, none, none, none, none, none] ++
  [some 12, none, none, none, none, none, none, none, some 12, none, none, none, none, none, none, none] ++
  [some 12, none, none, none, none, none, none, none, some 12, none, none, none, none, none, none, none] ++
  [none, none, none, none, none, none, none, none, none, none, none, none, none, none, none, none] ++
  [none, none, none, none, none, none, none, none, none, none, none, none, none, none, none, none] ++
  [none, none, none, none, none, none, none, none, none, none, none, none, none, none, none, none] ++
  [none, none, none, none, none, none, none, none, none, none, none, none, none, none, none, none] ++
  [none, none, none, none, none, none, none, none, none, none, none, none, none, none, none, none] ++
  [none, none, none, none, none, none, none, none, none, none, none, none, none, none, none, none] ++
  [none, none, none, none, none, none, none, none, none, none, none, none, none, none, none, none] ++
  [none, none, none, none, none, none, none, none, none, none, none, none, none, none, none, none] ++
  [some 20, none, some 16, none, some 24, none, none, none, some 20, none, some 16, none, some 24, none, none, none] ++
  [some 20, none, some 16, none, some 24, none, none, none, some 20, none, some 16, none, some 24, none, none, none] ++
  [none, none, none, none, none, none, none, none, none, none, none, none, none, none, none, none] ++
  [none, none, none, none, none, none, none, none, none, none, none, none, none, none, none, none]

/-- The cost a step reports (R271, R306 to R308): the table entry its class selects, given the first opcode byte of the
instruction; none where no step has reported. -/
def reportedCost (op : Byte) (r : Report) : Option Nat :=
  match r with
  | .none => none
  | .executed .default => (cyclesDefault[op.toNat]?).join
  | .executed .conditionalTaken => (cyclesTaken[op.toNat]?).join
  | .executed (.extendedCB cost) => some cost
  | .interruptDispatch _ => some Config.interruptDispatchCost
  | .haltIdle => some Config.haltIdleCost

end Sys2Proof.Machine
end

