-- ==== Sys2Proof/Machine/RotateShiftBit.lean ====
section
/-! DEFINITION. Rotate, shift, swap and bit instructions (43_rotate_shift_bit.md). A meaning runs with `pc` already past its own bytes (R16, R89). -/

namespace Sys2Proof.Machine

/-- `rot x` of the CB table (R172 to R187). -/
def cbRot (k : Rot) (x : Loc) (s : State) : Res State :=
  thenTiming (.extendedCB (cbCost x)) (modify8 (.ofLoc x) (rotResult k) s)

/-- `BIT n,x` (R188, R189): one read, no write. -/
def cbBit (n : Fin 8) (x : Loc) (s : State) : Res State :=
  thenTiming (.extendedCB (cbBitCost x))
    (andThen (readOperand8 (.ofLoc x) s) fun (v, s) => .next (s.setFlags (bitFlags n v s.flags)))

/-- `RES n,x` (R190, R191): the write is made even when the bit was already 0. -/
def cbRes (n : Fin 8) (x : Loc) (s : State) : Res State :=
  thenTiming (.extendedCB (cbCost x)) (modify8NoFlags (.ofLoc x) (resBit n) s)

/-- `SET n,x` (R192, R193). -/
def cbSet (n : Fin 8) (x : Loc) (s : State) : Res State :=
  thenTiming (.extendedCB (cbCost x)) (modify8NoFlags (.ofLoc x) (setBit n) s)

/-- `RLCA` (R168). -/
def execRlca (s : State) : Res State := modify8 (.reg .a) (rotAccResult .rlc) s
/-- `RRCA` (R169). -/
def execRrca (s : State) : Res State := modify8 (.reg .a) (rotAccResult .rrc) s
/-- `RLA` (R170). -/
def execRla (s : State) : Res State := modify8 (.reg .a) (rotAccResult .rl) s
/-- `RRA` (R171). -/
def execRra (s : State) : Res State := modify8 (.reg .a) (rotAccResult .rr) s
/-- `RLC B` (R172). -/
def execRlcB (s : State) : Res State := cbRot .rlc (.reg .b) s
/-- `BIT 0,B` (R188). -/
def execBit0B (s : State) : Res State := cbBit 0 (.reg .b) s
/-- `RES 0,B` (R190). -/
def execRes0B (s : State) : Res State := cbRes 0 (.reg .b) s
/-- `SET 0,B` (R192). -/
def execSet0B (s : State) : Res State := cbSet 0 (.reg .b) s
/-- `RLC C` (R172). -/
def execRlcC (s : State) : Res State := cbRot .rlc (.reg .c) s
/-- `BIT 0,C` (R188). -/
def execBit0C (s : State) : Res State := cbBit 0 (.reg .c) s
/-- `RES 0,C` (R190). -/
def execRes0C (s : State) : Res State := cbRes 0 (.reg .c) s
/-- `SET 0,C` (R192). -/
def execSet0C (s : State) : Res State := cbSet 0 (.reg .c) s
/-- `RLC D` (R172). -/
def execRlcD (s : State) : Res State := cbRot .rlc (.reg .d) s
/-- `BIT 0,D` (R188). -/
def execBit0D (s : State) : Res State := cbBit 0 (.reg .d) s
/-- `RES 0,D` (R190). -/
def execRes0D (s : State) : Res State := cbRes 0 (.reg .d) s
/-- `SET 0,D` (R192). -/
def execSet0D (s : State) : Res State := cbSet 0 (.reg .d) s
/-- `RLC E` (R172). -/
def execRlcE (s : State) : Res State := cbRot .rlc (.reg .e) s
/-- `BIT 0,E` (R188). -/
def execBit0E (s : State) : Res State := cbBit 0 (.reg .e) s
/-- `RES 0,E` (R190). -/
def execRes0E (s : State) : Res State := cbRes 0 (.reg .e) s
/-- `SET 0,E` (R192). -/
def execSet0E (s : State) : Res State := cbSet 0 (.reg .e) s
/-- `RLC H` (R172). -/
def execRlcH (s : State) : Res State := cbRot .rlc (.reg .h) s
/-- `BIT 0,H` (R188). -/
def execBit0H (s : State) : Res State := cbBit 0 (.reg .h) s
/-- `RES 0,H` (R190). -/
def execRes0H (s : State) : Res State := cbRes 0 (.reg .h) s
/-- `SET 0,H` (R192). -/
def execSet0H (s : State) : Res State := cbSet 0 (.reg .h) s
/-- `RLC L` (R172). -/
def execRlcL (s : State) : Res State := cbRot .rlc (.reg .l) s
/-- `BIT 0,L` (R188). -/
def execBit0L (s : State) : Res State := cbBit 0 (.reg .l) s
/-- `RES 0,L` (R190). -/
def execRes0L (s : State) : Res State := cbRes 0 (.reg .l) s
/-- `SET 0,L` (R192). -/
def execSet0L (s : State) : Res State := cbSet 0 (.reg .l) s
/-- `RLC (HL)` (R173). -/
def execRlcIndHl (s : State) : Res State := cbRot .rlc .indHl s
/-- `BIT 0,(HL)` (R189). -/
def execBit0IndHl (s : State) : Res State := cbBit 0 .indHl s
/-- `RES 0,(HL)` (R191). -/
def execRes0IndHl (s : State) : Res State := cbRes 0 .indHl s
/-- `SET 0,(HL)` (R193). -/
def execSet0IndHl (s : State) : Res State := cbSet 0 .indHl s
/-- `RLC A` (R172). -/
def execRlcA (s : State) : Res State := cbRot .rlc (.reg .a) s
/-- `BIT 0,A` (R188). -/
def execBit0A (s : State) : Res State := cbBit 0 (.reg .a) s
/-- `RES 0,A` (R190). -/
def execRes0A (s : State) : Res State := cbRes 0 (.reg .a) s
/-- `SET 0,A` (R192). -/
def execSet0A (s : State) : Res State := cbSet 0 (.reg .a) s
/-- `RRC B` (R174). -/
def execRrcB (s : State) : Res State := cbRot .rrc (.reg .b) s
/-- `BIT 1,B` (R188). -/
def execBit1B (s : State) : Res State := cbBit 1 (.reg .b) s
/-- `RES 1,B` (R190). -/
def execRes1B (s : State) : Res State := cbRes 1 (.reg .b) s
/-- `SET 1,B` (R192). -/
def execSet1B (s : State) : Res State := cbSet 1 (.reg .b) s
/-- `RRC C` (R174). -/
def execRrcC (s : State) : Res State := cbRot .rrc (.reg .c) s
/-- `BIT 1,C` (R188). -/
def execBit1C (s : State) : Res State := cbBit 1 (.reg .c) s
/-- `RES 1,C` (R190). -/
def execRes1C (s : State) : Res State := cbRes 1 (.reg .c) s
/-- `SET 1,C` (R192). -/
def execSet1C (s : State) : Res State := cbSet 1 (.reg .c) s
/-- `RRC D` (R174). -/
def execRrcD (s : State) : Res State := cbRot .rrc (.reg .d) s
/-- `BIT 1,D` (R188). -/
def execBit1D (s : State) : Res State := cbBit 1 (.reg .d) s
/-- `RES 1,D` (R190). -/
def execRes1D (s : State) : Res State := cbRes 1 (.reg .d) s
/-- `SET 1,D` (R192). -/
def execSet1D (s : State) : Res State := cbSet 1 (.reg .d) s
/-- `RRC E` (R174). -/
def execRrcE (s : State) : Res State := cbRot .rrc (.reg .e) s
/-- `BIT 1,E` (R188). -/
def execBit1E (s : State) : Res State := cbBit 1 (.reg .e) s
/-- `RES 1,E` (R190). -/
def execRes1E (s : State) : Res State := cbRes 1 (.reg .e) s
/-- `SET 1,E` (R192). -/
def execSet1E (s : State) : Res State := cbSet 1 (.reg .e) s
/-- `RRC H` (R174). -/
def execRrcH (s : State) : Res State := cbRot .rrc (.reg .h) s
/-- `BIT 1,H` (R188). -/
def execBit1H (s : State) : Res State := cbBit 1 (.reg .h) s
/-- `RES 1,H` (R190). -/
def execRes1H (s : State) : Res State := cbRes 1 (.reg .h) s
/-- `SET 1,H` (R192). -/
def execSet1H (s : State) : Res State := cbSet 1 (.reg .h) s
/-- `RRC L` (R174). -/
def execRrcL (s : State) : Res State := cbRot .rrc (.reg .l) s
/-- `BIT 1,L` (R188). -/
def execBit1L (s : State) : Res State := cbBit 1 (.reg .l) s
/-- `RES 1,L` (R190). -/
def execRes1L (s : State) : Res State := cbRes 1 (.reg .l) s
/-- `SET 1,L` (R192). -/
def execSet1L (s : State) : Res State := cbSet 1 (.reg .l) s
/-- `RRC (HL)` (R175). -/
def execRrcIndHl (s : State) : Res State := cbRot .rrc .indHl s
/-- `BIT 1,(HL)` (R189). -/
def execBit1IndHl (s : State) : Res State := cbBit 1 .indHl s
/-- `RES 1,(HL)` (R191). -/
def execRes1IndHl (s : State) : Res State := cbRes 1 .indHl s
/-- `SET 1,(HL)` (R193). -/
def execSet1IndHl (s : State) : Res State := cbSet 1 .indHl s
/-- `RRC A` (R174). -/
def execRrcA (s : State) : Res State := cbRot .rrc (.reg .a) s
/-- `BIT 1,A` (R188). -/
def execBit1A (s : State) : Res State := cbBit 1 (.reg .a) s
/-- `RES 1,A` (R190). -/
def execRes1A (s : State) : Res State := cbRes 1 (.reg .a) s
/-- `SET 1,A` (R192). -/
def execSet1A (s : State) : Res State := cbSet 1 (.reg .a) s
/-- `RL B` (R176). -/
def execRlB (s : State) : Res State := cbRot .rl (.reg .b) s
/-- `BIT 2,B` (R188). -/
def execBit2B (s : State) : Res State := cbBit 2 (.reg .b) s
/-- `RES 2,B` (R190). -/
def execRes2B (s : State) : Res State := cbRes 2 (.reg .b) s
/-- `SET 2,B` (R192). -/
def execSet2B (s : State) : Res State := cbSet 2 (.reg .b) s
/-- `RL C` (R176). -/
def execRlC (s : State) : Res State := cbRot .rl (.reg .c) s
/-- `BIT 2,C` (R188). -/
def execBit2C (s : State) : Res State := cbBit 2 (.reg .c) s
/-- `RES 2,C` (R190). -/
def execRes2C (s : State) : Res State := cbRes 2 (.reg .c) s
/-- `SET 2,C` (R192). -/
def execSet2C (s : State) : Res State := cbSet 2 (.reg .c) s
/-- `RL D` (R176). -/
def execRlD (s : State) : Res State := cbRot .rl (.reg .d) s
/-- `BIT 2,D` (R188). -/
def execBit2D (s : State) : Res State := cbBit 2 (.reg .d) s
/-- `RES 2,D` (R190). -/
def execRes2D (s : State) : Res State := cbRes 2 (.reg .d) s
/-- `SET 2,D` (R192). -/
def execSet2D (s : State) : Res State := cbSet 2 (.reg .d) s
/-- `RL E` (R176). -/
def execRlE (s : State) : Res State := cbRot .rl (.reg .e) s
/-- `BIT 2,E` (R188). -/
def execBit2E (s : State) : Res State := cbBit 2 (.reg .e) s
/-- `RES 2,E` (R190). -/
def execRes2E (s : State) : Res State := cbRes 2 (.reg .e) s
/-- `SET 2,E` (R192). -/
def execSet2E (s : State) : Res State := cbSet 2 (.reg .e) s
/-- `RL H` (R176). -/
def execRlH (s : State) : Res State := cbRot .rl (.reg .h) s
/-- `BIT 2,H` (R188). -/
def execBit2H (s : State) : Res State := cbBit 2 (.reg .h) s
/-- `RES 2,H` (R190). -/
def execRes2H (s : State) : Res State := cbRes 2 (.reg .h) s
/-- `SET 2,H` (R192). -/
def execSet2H (s : State) : Res State := cbSet 2 (.reg .h) s
/-- `RL L` (R176). -/
def execRlL (s : State) : Res State := cbRot .rl (.reg .l) s
/-- `BIT 2,L` (R188). -/
def execBit2L (s : State) : Res State := cbBit 2 (.reg .l) s
/-- `RES 2,L` (R190). -/
def execRes2L (s : State) : Res State := cbRes 2 (.reg .l) s
/-- `SET 2,L` (R192). -/
def execSet2L (s : State) : Res State := cbSet 2 (.reg .l) s
/-- `RL (HL)` (R177). -/
def execRlIndHl (s : State) : Res State := cbRot .rl .indHl s
/-- `BIT 2,(HL)` (R189). -/
def execBit2IndHl (s : State) : Res State := cbBit 2 .indHl s
/-- `RES 2,(HL)` (R191). -/
def execRes2IndHl (s : State) : Res State := cbRes 2 .indHl s
/-- `SET 2,(HL)` (R193). -/
def execSet2IndHl (s : State) : Res State := cbSet 2 .indHl s
/-- `RL A` (R176). -/
def execRlA (s : State) : Res State := cbRot .rl (.reg .a) s
/-- `BIT 2,A` (R188). -/
def execBit2A (s : State) : Res State := cbBit 2 (.reg .a) s
/-- `RES 2,A` (R190). -/
def execRes2A (s : State) : Res State := cbRes 2 (.reg .a) s
/-- `SET 2,A` (R192). -/
def execSet2A (s : State) : Res State := cbSet 2 (.reg .a) s
/-- `RR B` (R178). -/
def execRrB (s : State) : Res State := cbRot .rr (.reg .b) s
/-- `BIT 3,B` (R188). -/
def execBit3B (s : State) : Res State := cbBit 3 (.reg .b) s
/-- `RES 3,B` (R190). -/
def execRes3B (s : State) : Res State := cbRes 3 (.reg .b) s
/-- `SET 3,B` (R192). -/
def execSet3B (s : State) : Res State := cbSet 3 (.reg .b) s
/-- `RR C` (R178). -/
def execRrC (s : State) : Res State := cbRot .rr (.reg .c) s
/-- `BIT 3,C` (R188). -/
def execBit3C (s : State) : Res State := cbBit 3 (.reg .c) s
/-- `RES 3,C` (R190). -/
def execRes3C (s : State) : Res State := cbRes 3 (.reg .c) s
/-- `SET 3,C` (R192). -/
def execSet3C (s : State) : Res State := cbSet 3 (.reg .c) s
/-- `RR D` (R178). -/
def execRrD (s : State) : Res State := cbRot .rr (.reg .d) s
/-- `BIT 3,D` (R188). -/
def execBit3D (s : State) : Res State := cbBit 3 (.reg .d) s
/-- `RES 3,D` (R190). -/
def execRes3D (s : State) : Res State := cbRes 3 (.reg .d) s
/-- `SET 3,D` (R192). -/
def execSet3D (s : State) : Res State := cbSet 3 (.reg .d) s
/-- `RR E` (R178). -/
def execRrE (s : State) : Res State := cbRot .rr (.reg .e) s
/-- `BIT 3,E` (R188). -/
def execBit3E (s : State) : Res State := cbBit 3 (.reg .e) s
/-- `RES 3,E` (R190). -/
def execRes3E (s : State) : Res State := cbRes 3 (.reg .e) s
/-- `SET 3,E` (R192). -/
def execSet3E (s : State) : Res State := cbSet 3 (.reg .e) s
/-- `RR H` (R178). -/
def execRrH (s : State) : Res State := cbRot .rr (.reg .h) s
/-- `BIT 3,H` (R188). -/
def execBit3H (s : State) : Res State := cbBit 3 (.reg .h) s
/-- `RES 3,H` (R190). -/
def execRes3H (s : State) : Res State := cbRes 3 (.reg .h) s
/-- `SET 3,H` (R192). -/
def execSet3H (s : State) : Res State := cbSet 3 (.reg .h) s
/-- `RR L` (R178). -/
def execRrL (s : State) : Res State := cbRot .rr (.reg .l) s
/-- `BIT 3,L` (R188). -/
def execBit3L (s : State) : Res State := cbBit 3 (.reg .l) s
/-- `RES 3,L` (R190). -/
def execRes3L (s : State) : Res State := cbRes 3 (.reg .l) s
/-- `SET 3,L` (R192). -/
def execSet3L (s : State) : Res State := cbSet 3 (.reg .l) s
/-- `RR (HL)` (R179). -/
def execRrIndHl (s : State) : Res State := cbRot .rr .indHl s
/-- `BIT 3,(HL)` (R189). -/
def execBit3IndHl (s : State) : Res State := cbBit 3 .indHl s
/-- `RES 3,(HL)` (R191). -/
def execRes3IndHl (s : State) : Res State := cbRes 3 .indHl s
/-- `SET 3,(HL)` (R193). -/
def execSet3IndHl (s : State) : Res State := cbSet 3 .indHl s
/-- `RR A` (R178). -/
def execRrA (s : State) : Res State := cbRot .rr (.reg .a) s
/-- `BIT 3,A` (R188). -/
def execBit3A (s : State) : Res State := cbBit 3 (.reg .a) s
/-- `RES 3,A` (R190). -/
def execRes3A (s : State) : Res State := cbRes 3 (.reg .a) s
/-- `SET 3,A` (R192). -/
def execSet3A (s : State) : Res State := cbSet 3 (.reg .a) s
/-- `SLA B` (R180). -/
def execSlaB (s : State) : Res State := cbRot .sla (.reg .b) s
/-- `BIT 4,B` (R188). -/
def execBit4B (s : State) : Res State := cbBit 4 (.reg .b) s
/-- `RES 4,B` (R190). -/
def execRes4B (s : State) : Res State := cbRes 4 (.reg .b) s
/-- `SET 4,B` (R192). -/
def execSet4B (s : State) : Res State := cbSet 4 (.reg .b) s
/-- `SLA C` (R180). -/
def execSlaC (s : State) : Res State := cbRot .sla (.reg .c) s
/-- `BIT 4,C` (R188). -/
def execBit4C (s : State) : Res State := cbBit 4 (.reg .c) s
/-- `RES 4,C` (R190). -/
def execRes4C (s : State) : Res State := cbRes 4 (.reg .c) s
/-- `SET 4,C` (R192). -/
def execSet4C (s : State) : Res State := cbSet 4 (.reg .c) s
/-- `SLA D` (R180). -/
def execSlaD (s : State) : Res State := cbRot .sla (.reg .d) s
/-- `BIT 4,D` (R188). -/
def execBit4D (s : State) : Res State := cbBit 4 (.reg .d) s
/-- `RES 4,D` (R190). -/
def execRes4D (s : State) : Res State := cbRes 4 (.reg .d) s
/-- `SET 4,D` (R192). -/
def execSet4D (s : State) : Res State := cbSet 4 (.reg .d) s
/-- `SLA E` (R180). -/
def execSlaE (s : State) : Res State := cbRot .sla (.reg .e) s
/-- `BIT 4,E` (R188). -/
def execBit4E (s : State) : Res State := cbBit 4 (.reg .e) s
/-- `RES 4,E` (R190). -/
def execRes4E (s : State) : Res State := cbRes 4 (.reg .e) s
/-- `SET 4,E` (R192). -/
def execSet4E (s : State) : Res State := cbSet 4 (.reg .e) s
/-- `SLA H` (R180). -/
def execSlaH (s : State) : Res State := cbRot .sla (.reg .h) s
/-- `BIT 4,H` (R188). -/
def execBit4H (s : State) : Res State := cbBit 4 (.reg .h) s
/-- `RES 4,H` (R190). -/
def execRes4H (s : State) : Res State := cbRes 4 (.reg .h) s
/-- `SET 4,H` (R192). -/
def execSet4H (s : State) : Res State := cbSet 4 (.reg .h) s
/-- `SLA L` (R180). -/
def execSlaL (s : State) : Res State := cbRot .sla (.reg .l) s
/-- `BIT 4,L` (R188). -/
def execBit4L (s : State) : Res State := cbBit 4 (.reg .l) s
/-- `RES 4,L` (R190). -/
def execRes4L (s : State) : Res State := cbRes 4 (.reg .l) s
/-- `SET 4,L` (R192). -/
def execSet4L (s : State) : Res State := cbSet 4 (.reg .l) s
/-- `SLA (HL)` (R181). -/
def execSlaIndHl (s : State) : Res State := cbRot .sla .indHl s
/-- `BIT 4,(HL)` (R189). -/
def execBit4IndHl (s : State) : Res State := cbBit 4 .indHl s
/-- `RES 4,(HL)` (R191). -/
def execRes4IndHl (s : State) : Res State := cbRes 4 .indHl s
/-- `SET 4,(HL)` (R193). -/
def execSet4IndHl (s : State) : Res State := cbSet 4 .indHl s
/-- `SLA A` (R180). -/
def execSlaA (s : State) : Res State := cbRot .sla (.reg .a) s
/-- `BIT 4,A` (R188). -/
def execBit4A (s : State) : Res State := cbBit 4 (.reg .a) s
/-- `RES 4,A` (R190). -/
def execRes4A (s : State) : Res State := cbRes 4 (.reg .a) s
/-- `SET 4,A` (R192). -/
def execSet4A (s : State) : Res State := cbSet 4 (.reg .a) s
/-- `SRA B` (R182). -/
def execSraB (s : State) : Res State := cbRot .sra (.reg .b) s
/-- `BIT 5,B` (R188). -/
def execBit5B (s : State) : Res State := cbBit 5 (.reg .b) s
/-- `RES 5,B` (R190). -/
def execRes5B (s : State) : Res State := cbRes 5 (.reg .b) s
/-- `SET 5,B` (R192). -/
def execSet5B (s : State) : Res State := cbSet 5 (.reg .b) s
/-- `SRA C` (R182). -/
def execSraC (s : State) : Res State := cbRot .sra (.reg .c) s
/-- `BIT 5,C` (R188). -/
def execBit5C (s : State) : Res State := cbBit 5 (.reg .c) s
/-- `RES 5,C` (R190). -/
def execRes5C (s : State) : Res State := cbRes 5 (.reg .c) s
/-- `SET 5,C` (R192). -/
def execSet5C (s : State) : Res State := cbSet 5 (.reg .c) s
/-- `SRA D` (R182). -/
def execSraD (s : State) : Res State := cbRot .sra (.reg .d) s
/-- `BIT 5,D` (R188). -/
def execBit5D (s : State) : Res State := cbBit 5 (.reg .d) s
/-- `RES 5,D` (R190). -/
def execRes5D (s : State) : Res State := cbRes 5 (.reg .d) s
/-- `SET 5,D` (R192). -/
def execSet5D (s : State) : Res State := cbSet 5 (.reg .d) s
/-- `SRA E` (R182). -/
def execSraE (s : State) : Res State := cbRot .sra (.reg .e) s
/-- `BIT 5,E` (R188). -/
def execBit5E (s : State) : Res State := cbBit 5 (.reg .e) s
/-- `RES 5,E` (R190). -/
def execRes5E (s : State) : Res State := cbRes 5 (.reg .e) s
/-- `SET 5,E` (R192). -/
def execSet5E (s : State) : Res State := cbSet 5 (.reg .e) s
/-- `SRA H` (R182). -/
def execSraH (s : State) : Res State := cbRot .sra (.reg .h) s
/-- `BIT 5,H` (R188). -/
def execBit5H (s : State) : Res State := cbBit 5 (.reg .h) s
/-- `RES 5,H` (R190). -/
def execRes5H (s : State) : Res State := cbRes 5 (.reg .h) s
/-- `SET 5,H` (R192). -/
def execSet5H (s : State) : Res State := cbSet 5 (.reg .h) s
/-- `SRA L` (R182). -/
def execSraL (s : State) : Res State := cbRot .sra (.reg .l) s
/-- `BIT 5,L` (R188). -/
def execBit5L (s : State) : Res State := cbBit 5 (.reg .l) s
/-- `RES 5,L` (R190). -/
def execRes5L (s : State) : Res State := cbRes 5 (.reg .l) s
/-- `SET 5,L` (R192). -/
def execSet5L (s : State) : Res State := cbSet 5 (.reg .l) s
/-- `SRA (HL)` (R183). -/
def execSraIndHl (s : State) : Res State := cbRot .sra .indHl s
/-- `BIT 5,(HL)` (R189). -/
def execBit5IndHl (s : State) : Res State := cbBit 5 .indHl s
/-- `RES 5,(HL)` (R191). -/
def execRes5IndHl (s : State) : Res State := cbRes 5 .indHl s
/-- `SET 5,(HL)` (R193). -/
def execSet5IndHl (s : State) : Res State := cbSet 5 .indHl s
/-- `SRA A` (R182). -/
def execSraA (s : State) : Res State := cbRot .sra (.reg .a) s
/-- `BIT 5,A` (R188). -/
def execBit5A (s : State) : Res State := cbBit 5 (.reg .a) s
/-- `RES 5,A` (R190). -/
def execRes5A (s : State) : Res State := cbRes 5 (.reg .a) s
/-- `SET 5,A` (R192). -/
def execSet5A (s : State) : Res State := cbSet 5 (.reg .a) s
/-- `SWAP B` (R184). -/
def execSwapB (s : State) : Res State := cbRot .swap (.reg .b) s
/-- `BIT 6,B` (R188). -/
def execBit6B (s : State) : Res State := cbBit 6 (.reg .b) s
/-- `RES 6,B` (R190). -/
def execRes6B (s : State) : Res State := cbRes 6 (.reg .b) s
/-- `SET 6,B` (R192). -/
def execSet6B (s : State) : Res State := cbSet 6 (.reg .b) s
/-- `SWAP C` (R184). -/
def execSwapC (s : State) : Res State := cbRot .swap (.reg .c) s
/-- `BIT 6,C` (R188). -/
def execBit6C (s : State) : Res State := cbBit 6 (.reg .c) s
/-- `RES 6,C` (R190). -/
def execRes6C (s : State) : Res State := cbRes 6 (.reg .c) s
/-- `SET 6,C` (R192). -/
def execSet6C (s : State) : Res State := cbSet 6 (.reg .c) s
/-- `SWAP D` (R184). -/
def execSwapD (s : State) : Res State := cbRot .swap (.reg .d) s
/-- `BIT 6,D` (R188). -/
def execBit6D (s : State) : Res State := cbBit 6 (.reg .d) s
/-- `RES 6,D` (R190). -/
def execRes6D (s : State) : Res State := cbRes 6 (.reg .d) s
/-- `SET 6,D` (R192). -/
def execSet6D (s : State) : Res State := cbSet 6 (.reg .d) s
/-- `SWAP E` (R184). -/
def execSwapE (s : State) : Res State := cbRot .swap (.reg .e) s
/-- `BIT 6,E` (R188). -/
def execBit6E (s : State) : Res State := cbBit 6 (.reg .e) s
/-- `RES 6,E` (R190). -/
def execRes6E (s : State) : Res State := cbRes 6 (.reg .e) s
/-- `SET 6,E` (R192). -/
def execSet6E (s : State) : Res State := cbSet 6 (.reg .e) s
/-- `SWAP H` (R184). -/
def execSwapH (s : State) : Res State := cbRot .swap (.reg .h) s
/-- `BIT 6,H` (R188). -/
def execBit6H (s : State) : Res State := cbBit 6 (.reg .h) s
/-- `RES 6,H` (R190). -/
def execRes6H (s : State) : Res State := cbRes 6 (.reg .h) s
/-- `SET 6,H` (R192). -/
def execSet6H (s : State) : Res State := cbSet 6 (.reg .h) s
/-- `SWAP L` (R184). -/
def execSwapL (s : State) : Res State := cbRot .swap (.reg .l) s
/-- `BIT 6,L` (R188). -/
def execBit6L (s : State) : Res State := cbBit 6 (.reg .l) s
/-- `RES 6,L` (R190). -/
def execRes6L (s : State) : Res State := cbRes 6 (.reg .l) s
/-- `SET 6,L` (R192). -/
def execSet6L (s : State) : Res State := cbSet 6 (.reg .l) s
/-- `SWAP (HL)` (R185). -/
def execSwapIndHl (s : State) : Res State := cbRot .swap .indHl s
/-- `BIT 6,(HL)` (R189). -/
def execBit6IndHl (s : State) : Res State := cbBit 6 .indHl s
/-- `RES 6,(HL)` (R191). -/
def execRes6IndHl (s : State) : Res State := cbRes 6 .indHl s
/-- `SET 6,(HL)` (R193). -/
def execSet6IndHl (s : State) : Res State := cbSet 6 .indHl s
/-- `SWAP A` (R184). -/
def execSwapA (s : State) : Res State := cbRot .swap (.reg .a) s
/-- `BIT 6,A` (R188). -/
def execBit6A (s : State) : Res State := cbBit 6 (.reg .a) s
/-- `RES 6,A` (R190). -/
def execRes6A (s : State) : Res State := cbRes 6 (.reg .a) s
/-- `SET 6,A` (R192). -/
def execSet6A (s : State) : Res State := cbSet 6 (.reg .a) s
/-- `SRL B` (R186). -/
def execSrlB (s : State) : Res State := cbRot .srl (.reg .b) s
/-- `BIT 7,B` (R188). -/
def execBit7B (s : State) : Res State := cbBit 7 (.reg .b) s
/-- `RES 7,B` (R190). -/
def execRes7B (s : State) : Res State := cbRes 7 (.reg .b) s
/-- `SET 7,B` (R192). -/
def execSet7B (s : State) : Res State := cbSet 7 (.reg .b) s
/-- `SRL C` (R186). -/
def execSrlC (s : State) : Res State := cbRot .srl (.reg .c) s
/-- `BIT 7,C` (R188). -/
def execBit7C (s : State) : Res State := cbBit 7 (.reg .c) s
/-- `RES 7,C` (R190). -/
def execRes7C (s : State) : Res State := cbRes 7 (.reg .c) s
/-- `SET 7,C` (R192). -/
def execSet7C (s : State) : Res State := cbSet 7 (.reg .c) s
/-- `SRL D` (R186). -/
def execSrlD (s : State) : Res State := cbRot .srl (.reg .d) s
/-- `BIT 7,D` (R188). -/
def execBit7D (s : State) : Res State := cbBit 7 (.reg .d) s
/-- `RES 7,D` (R190). -/
def execRes7D (s : State) : Res State := cbRes 7 (.reg .d) s
/-- `SET 7,D` (R192). -/
def execSet7D (s : State) : Res State := cbSet 7 (.reg .d) s
/-- `SRL E` (R186). -/
def execSrlE (s : State) : Res State := cbRot .srl (.reg .e) s
/-- `BIT 7,E` (R188). -/
def execBit7E (s : State) : Res State := cbBit 7 (.reg .e) s
/-- `RES 7,E` (R190). -/
def execRes7E (s : State) : Res State := cbRes 7 (.reg .e) s
/-- `SET 7,E` (R192). -/
def execSet7E (s : State) : Res State := cbSet 7 (.reg .e) s
/-- `SRL H` (R186). -/
def execSrlH (s : State) : Res State := cbRot .srl (.reg .h) s
/-- `BIT 7,H` (R188). -/
def execBit7H (s : State) : Res State := cbBit 7 (.reg .h) s
/-- `RES 7,H` (R190). -/
def execRes7H (s : State) : Res State := cbRes 7 (.reg .h) s
/-- `SET 7,H` (R192). -/
def execSet7H (s : State) : Res State := cbSet 7 (.reg .h) s
/-- `SRL L` (R186). -/
def execSrlL (s : State) : Res State := cbRot .srl (.reg .l) s
/-- `BIT 7,L` (R188). -/
def execBit7L (s : State) : Res State := cbBit 7 (.reg .l) s
/-- `RES 7,L` (R190). -/
def execRes7L (s : State) : Res State := cbRes 7 (.reg .l) s
/-- `SET 7,L` (R192). -/
def execSet7L (s : State) : Res State := cbSet 7 (.reg .l) s
/-- `SRL (HL)` (R187). -/
def execSrlIndHl (s : State) : Res State := cbRot .srl .indHl s
/-- `BIT 7,(HL)` (R189). -/
def execBit7IndHl (s : State) : Res State := cbBit 7 .indHl s
/-- `RES 7,(HL)` (R191). -/
def execRes7IndHl (s : State) : Res State := cbRes 7 .indHl s
/-- `SET 7,(HL)` (R193). -/
def execSet7IndHl (s : State) : Res State := cbSet 7 .indHl s
/-- `SRL A` (R186). -/
def execSrlA (s : State) : Res State := cbRot .srl (.reg .a) s
/-- `BIT 7,A` (R188). -/
def execBit7A (s : State) : Res State := cbBit 7 (.reg .a) s
/-- `RES 7,A` (R190). -/
def execRes7A (s : State) : Res State := cbRes 7 (.reg .a) s
/-- `SET 7,A` (R192). -/
def execSet7A (s : State) : Res State := cbSet 7 (.reg .a) s

end Sys2Proof.Machine
end

