-- ==== Sys2Proof/Machine/System.lean ====
section
/-! DEFINITION. System instructions, the unassigned bytes and the prefix row (47_system.md). A meaning runs with `pc` already past its own bytes (R16, R89). -/

namespace Sys2Proof.Machine

/-- An unassigned byte: `raise Fatal(InvalidOpcode, (op, pc - 1, sp))`; `pc` is already past the byte (R266, R272). -/
def unassignedByte (op : Byte) (s : State) : Res State :=
  raise (.invalidOpcode op (s.pc - 1) s.sp) s

/-- The entry `op2` of the CB table, by its fields (R92, R265). -/
def cbEntry (op2 : Byte) (s : State) : Res State :=
  match fieldX op2 with
  | 0 => cbRot (rotOf (fieldY op2)) (locOf (fieldZ op2)) s
  | 1 => cbBit (fieldY op2) (locOf (fieldZ op2)) s
  | 2 => cbRes (fieldY op2) (locOf (fieldZ op2)) s
  | 3 => cbSet (fieldY op2) (locOf (fieldZ op2)) s

/-- `NOP` (R260). -/
def execNop (s : State) : Res State := .next s
/-- `HALT` (R261). -/
def execHalt (s : State) : Res State := .next { s with halted := true }
/-- `STOP` (R262). -/
def execStop (s : State) : Res State := raise (.stopNotModelled (s.pc - 1)) s
/-- `DI` (R263). -/
def execDi (s : State) : Res State := .next { s with ime := false, eiPending := false }
/-- `EI` (R264). -/
def execEi (s : State) : Res State := .next (if s.platform.eiDelayed then { s with eiPending := true } else { s with ime := true })
/-- The unassigned byte 0xD3 (R266). -/
def execIllegalD3 (s : State) : Res State := unassignedByte 0xD3 s
/-- The unassigned byte 0xDB (R266). -/
def execIllegalDB (s : State) : Res State := unassignedByte 0xDB s
/-- The unassigned byte 0xDD (R266). -/
def execIllegalDD (s : State) : Res State := unassignedByte 0xDD s
/-- The unassigned byte 0xE3 (R266). -/
def execIllegalE3 (s : State) : Res State := unassignedByte 0xE3 s
/-- The unassigned byte 0xE4 (R266). -/
def execIllegalE4 (s : State) : Res State := unassignedByte 0xE4 s
/-- The unassigned byte 0xEB (R266). -/
def execIllegalEB (s : State) : Res State := unassignedByte 0xEB s
/-- The unassigned byte 0xEC (R266). -/
def execIllegalEC (s : State) : Res State := unassignedByte 0xEC s
/-- The unassigned byte 0xED (R266). -/
def execIllegalED (s : State) : Res State := unassignedByte 0xED s
/-- The unassigned byte 0xF4 (R266). -/
def execIllegalF4 (s : State) : Res State := unassignedByte 0xF4 s
/-- The unassigned byte 0xFC (R266). -/
def execIllegalFC (s : State) : Res State := unassignedByte 0xFC s
/-- The unassigned byte 0xFD (R266). -/
def execIllegalFD (s : State) : Res State := unassignedByte 0xFD s
/-- `PREFIX CB` (R265). -/
def execPrefixCb (s : State) : Res State := andThen (fetch8 s) fun (op2, s) => cbEntry op2 s

end Sys2Proof.Machine
end

