-- ==== Sys2Proof/Machine/Cycle.lean ====
section
/-! DEFINITION. One call of the document's `cycle()` (60_exceptions.md rule R270): the boundary, then at most one instruction. -/

namespace Sys2Proof.Machine

/-- Fetch the opcode byte, then the bytes it calls for, and decode (R90, R94, R89). `pc` moves past each byte as it is fetched. -/
def fetchInstr (s : State) : Res (Instr × State) :=
  andThen (fetch8 s) fun (op, s) =>
    match unprefixed op with
    | .whole i => .next (i, s)
    | .byteOperand f => andThen (fetch8 s) fun (d, s) => .next (f d, s)
    | .wordOperand f => andThen (fetch16 s) fun (d, s) => .next (f d, s)
    | .cbPrefix => andThen (fetch8 s) fun (op2, s) => .next (prefixed op2, s)

/-- Fetch one instruction and execute it; the class it reports is `Default` unless its meaning assigns one (R306). -/
def runInstr (s : State) : Res State :=
  andThen (fetchInstr s) fun (i, s) => exec i (s.setTiming .default)

/-- The step of a running core, after the environment has acted: wake, dispatch, idle, or one instruction (R270). -/
def cycle (s : State) : Res State :=
  let s := s.wake
  match s.toDispatch with
  | some n => dispatchInterrupt n s
  | none => if s.halted then .next { s with report := .haltIdle } else runInstr s.applyPendingEi

/-- One step: the environment's action at the boundary (R74), then the cycle. A faulted core takes no step (R277). -/
def stepOf (s : State) : Res State :=
  match s.status with
  | .running => cycle s.raiseEnvironment
  | .faulted cause => .refused (.notRunning cause)

end Sys2Proof.Machine
end

