-- ==== Sys2Proof/Machine/Step.lean ====
section
/-! DEFINITION. The step, and placing an instruction where it fetches. -/

namespace Sys2Proof.Machine

/-- One step of the machine (60_exceptions.md rule R270). -/
def step (s : State) : Host.Outcome State Fault Refusal := stepOf s

/-- `s` with the instruction whose bits are `w` placed at `pc`, in the numbering of `tableBytes`: in RAM where `pc` is in RAM, and
as the image of a handler where it is in a collaborator region, as at reset (log 11). -/
def State.withFetchWord (s : State) (nbits w : Nat) : State :=
  s.placeBytes s.pc (tableBytes nbits w)

end Sys2Proof.Machine
end

