-- ==== Sys2Proof/Safety.lean ====
section
/-! DEFINITION. What a safe run is, what a state must keep, and the vocabulary the statements use: which addresses can be
accessed, the byte a core-backed address holds, what each instruction may write, and the arithmetic of the spec's tables written
out a second time, in plain numbers, so that a statement does not repeat the definition it is about. -/

namespace Sys2Proof.Machine

/-! ### Access -/

/-- An access to `addr` does not raise a Fatal: its row exists (20_memory.md rule R53), and a collaborator's has a handler
(R45); a handler that is installed does not fail (log 24). -/
def State.accessible (s : State) (addr : Word) : Bool :=
  match route addr with
  | .outOfRange => false
  | .collaborator g => s.hasHandler g
  | .ram _ | .interruptFlags | .interruptEnable | .speedSwitch | .tolerated => true

/-- The byte at an address whose content the core itself fixes (R43, R44, R46, R48, R51, R52); none where the byte is a
collaborator's, a draw, or out of range. -/
def State.coreByte (s : State) (addr : Word) : Option Byte :=
  match route addr with
  | .ram k => some (s.ram k)
  | .interruptFlags => some s.ifr
  | .interruptEnable => some s.ie
  | .speedSwitch => some 0x00
  | .collaborator _ | .tolerated | .outOfRange => none

/-- From `s` to `t`, no core-backed byte changes outside the listed addresses. An address and its echo are one cell (R44), so
"outside" is said of what the router finds there. -/
def OnlyBytesChange (s t : State) (addrs : List Word) : Prop :=
  ∀ b : Word, (∀ a ∈ addrs, route a ≠ route b) → t.coreByte b = s.coreByte b

/-! ### Safe runs -/

/-- No fatal condition within `n` steps from `s`. -/
def State.safeFor (s : State) (n : Nat) : Prop := ∃ t, Sys2Proof.core.run n s = .next t

/-- The cells the core backs: the reachable working RAM and high RAM (10_state.md rules R29, R30). -/
def isCell (k : Nat) : Bool := (decide (0xC000 ≤ k) && decide (k ≤ 0xDFFF)) || (decide (0xFF80 ≤ k) && decide (k ≤ 0xFFFE))

/-- What every step keeps (10_state.md rule R37, with the model's own canonical forms): `F[3:0] = 0`; `ei_pending` false unless
`EI_DELAYED`; memory and the image in canonical form, memory's keys cells of the core. -/
structure State.Wf (s : State) : Prop where
  lowNibble : s.f &&& 0x0F = 0
  eiPending : s.platform.eiDelayed = false → s.eiPending = false
  memory : s.mem.wf
  cells : ∀ c ∈ s.mem, isCell c.1 = true
  image : Memory.wf s.platform.image

/-! ### What an access does, for the statements -/

/-- The step ends in a Fatal and nothing else has changed (60_exceptions.md rules R271, R277). -/
def StopsAt {α : Type} (s : State) (r : Res α) : Prop :=
  ∃ e : Fault, r = .fault e ∧ e.left = { s with status := .faulted e.cause, report := .none }

/-- `r` is the Fatal that the read of `addr` raises, and nothing else has changed (R271, R277). -/
def ReadStops {α : Type} (s : State) (addr : Word) (r : Res α) : Prop :=
  ∃ e : Fault, memRead addr s = .fault e ∧ r = .fault e ∧ e.left = { s with status := .faulted e.cause, report := .none }

/-- `r` is "read `addr`, put the byte in `r8`, then `after`" where the access is possible; else the Fatal of the read, nothing
changed (44_load8.md). -/
def Loads (s : State) (addr : Word) (dst : Reg8) (after : State → State) (r : Res State) : Prop :=
  (s.accessible addr = true → ∃ v t, memRead addr s = .next (v, t) ∧ r = .next (after (t.setReg8 dst v))) ∧
  (s.accessible addr = false → ReadStops s addr r)

/-- `r` is "write `v` to `addr`, then `after`" where the access is possible; else the Fatal of the write, with what that write
leaves (44_load8.md, 20_memory.md rules R47, R49). -/
def Stores (s : State) (addr : Word) (v : Byte) (after : State → State) (r : Res State) : Prop :=
  (s.accessible addr = true → ∃ t, memWrite addr v s = .next t ∧ r = .next (after t)) ∧
  (s.accessible addr = false → ∃ e, memWrite addr v s = .fault e ∧ r = .fault e)

/-- `r` is "read the byte at `HL`, write `g` of it back, then `after`" where the access is possible; else the Fatal of the read,
nothing changed (40_arith8.md rule R128, 43_rotate_shift_bit.md section 3). -/
def Modifies (s : State) (g : Byte → Byte) (after : Byte → State → State) (r : Res State) : Prop :=
  (s.accessible s.hl = true → ∃ v t u, memRead s.hl s = .next (v, t) ∧ memWrite s.hl (g v) t = .next u ∧ r = .next (after v u)) ∧
  (s.accessible s.hl = false → ReadStops s s.hl r)

/-- `u` is `s` after `Push16(v)`: high byte at `sp - 1`, then low byte at `sp - 2` (20_memory.md rule R62). -/
def Pushed (v : Word) (s u : State) : Prop :=
  ∃ t, memWrite (s.sp - 1) (hiByte v) { s with sp := s.sp - 1 } = .next t ∧
    memWrite (s.sp - 2) (loByte v) { t with sp := s.sp - 2 } = .next u

/-- `e` is the Fatal of `Push16(v)`: that of the first write, `sp` moved by one and the second write not made, or that of the second
write, the first one made and `sp` moved by two (R62, R277). -/
def PushStops (v : Word) (s : State) (e : Fault) : Prop :=
  (s.accessible (s.sp - 1) = false →
    memWrite (s.sp - 1) (hiByte v) { s with sp := s.sp - 1 } = .fault e ∧ e.left.sp = s.sp - 1) ∧
  (s.accessible (s.sp - 1) = true → ∃ t, memWrite (s.sp - 1) (hiByte v) { s with sp := s.sp - 1 } = .next t ∧
    memWrite (s.sp - 2) (loByte v) { t with sp := s.sp - 2 } = .fault e ∧ e.left.sp = s.sp - 2)

/-- `u` is `s` after `Pop16()`, which returned `hi:lo`: low byte at `sp`, then high byte at `sp + 1` (R63). -/
def Popped (lo hi : Byte) (s u : State) : Prop :=
  ∃ t w, memRead s.sp s = .next (lo, t) ∧ memRead (s.sp + 1) { t with sp := s.sp + 1 } = .next (hi, w) ∧
    u = { w with sp := s.sp + 2 }

/-- `e` is the Fatal of `Pop16()`: that of the first read, nothing changed, or that of the second, `sp` moved by one and nothing else
but what the first read recorded (R63, R277). -/
def PopStops (s : State) (e : Fault) : Prop :=
  (s.accessible s.sp = false → memRead s.sp s = .fault e ∧ e.left = { s with status := .faulted e.cause, report := .none }) ∧
  (s.accessible s.sp = true → ∃ lo t, memRead s.sp s = .next (lo, t) ∧ memRead (s.sp + 1) { t with sp := s.sp + 1 } = .fault e ∧
    e.left = { s with sp := s.sp + 1, calls := t.calls, draws := t.draws, status := .faulted e.cause, report := .none })

/-- The two cells a push writes can be accessed. -/
def State.canPush (s : State) : Bool := s.accessible (s.sp - 1) && s.accessible (s.sp - 2)

/-- The two cells a pop reads can be accessed. -/
def State.canPop (s : State) : Bool := s.accessible s.sp && s.accessible (s.sp + 1)

/-! ### Fetching whole instructions -/

/-- `n` times `Fetch8()` (20_memory.md rule R61). -/
def fetchBytes (n : Nat) (s : State) : Res (List Byte × State) :=
  match n with
  | 0 => .next ([], s)
  | n + 1 =>
    andThen (fetch8 s) fun (v, s) =>
    andThen (fetchBytes n s) fun (vs, s) => .next (v :: vs, s)

/-- How many bytes a step fetches of an instruction: all of them, but of STOP only the first (47_system.md rule R262). -/
def fetchedBytes (i : Instr) : Nat :=
  match i with
  | .stop => 1
  | _ => (encode i).length

end Sys2Proof.Machine

namespace Sys2Proof

/-! ### What an instruction may write, from its opcode -/

/-- `r` is a half of the pair. -/
def rpHas (x : Rp) (r : Reg8) : Bool :=
  match x with
  | .bc => decide (r = .b ∨ r = .c)
  | .de => decide (r = .d ∨ r = .e)
  | .hl => decide (r = .h ∨ r = .l)
  | .sp => false

/-- `r` is a half of the pair; `F` is no `Reg8`. -/
def rp2Has (x : Rp2) (r : Reg8) : Bool :=
  match x with
  | .bc => decide (r = .b ∨ r = .c)
  | .de => decide (r = .d ∨ r = .e)
  | .hl => decide (r = .h ∨ r = .l)
  | .af => decide (r = .a)

/-- The 8-bit registers an unprefixed opcode may write: its destination, and HL where it steps (30_encoding.md rule R91 with the
operand columns of files 40 to 46). -/
def opWritesReg (op : Byte) (r : Reg8) : Bool :=
  match fieldX op, fieldZ op with
  | 1, _ => decide (op ≠ 0x76) && decide (locOf (fieldY op) = .reg r)
  | 2, _ => decide (fieldY op ≠ 7) && decide (r = .a)
  | 3, 6 => decide (fieldY op ≠ 7) && decide (r = .a)
  | 0, 4 | 0, 5 | 0, 6 => decide (locOf (fieldY op) = .reg r)
  | 0, 1 => if fieldQ op = 0 then rpHas (rpOf (fieldP op)) r else rpHas .hl r
  | 0, 2 => (decide (fieldQ op = 1) && decide (r = .a)) || (decide (2 ≤ (fieldP op).val) && rpHas .hl r)
  | 0, 3 => rpHas (rpOf (fieldP op)) r
  | 0, 7 => decide ((fieldY op).val < 6) && decide (r = .a)
  | 3, 0 => (decide (op = 0xF0) && decide (r = .a)) || (decide (op = 0xF8) && rpHas .hl r)
  | 3, 1 => decide (fieldQ op = 0) && rp2Has (rp2Of (fieldP op)) r
  | 3, 2 => decide (op = 0xF2 ∨ op = 0xFA) && decide (r = .a)
  | _, _ => false

/-- The flags an unprefixed opcode may write, as a mask over `F` (10_state.md section 8). -/
def opWritesFlags (op : Byte) : Byte :=
  match fieldX op, fieldZ op with
  | 2, _ => 0xF0
  | 3, 6 => 0xF0
  | 0, 4 | 0, 5 => 0xE0
  | 0, 1 => if fieldQ op = 1 then 0x70 else 0x00
  | 0, 7 =>
    if (fieldY op).val < 4 then 0xF0
    else if fieldY op = 4 then 0xB0
    else if fieldY op = 5 then 0x60
    else 0x70
  | 3, 0 => if op = 0xE8 ∨ op = 0xF8 then 0xF0 else 0x00
  | 3, 1 => if op = 0xF1 then 0xF0 else 0x00
  | _, _ => 0x00

/-- The unprefixed opcodes that move `SP` (10_state.md rule R15). -/
def opMovesSp (op : Byte) : Bool :=
  match fieldX op, fieldZ op with
  | 0, 1 => decide (op = 0x31)
  | 0, 3 => decide (op = 0x33 ∨ op = 0x3B)
  | 3, 0 => decide ((fieldY op).val < 4) || decide (op = 0xE8)
  | 3, 1 => decide (fieldQ op = 0) || decide (op = 0xC9 ∨ op = 0xD9 ∨ op = 0xF9)
  | 3, 4 => decide ((fieldY op).val < 4)
  | 3, 5 => decide (fieldQ op = 0) || decide (op = 0xCD)
  | 3, 7 => true
  | _, _ => false

/-- The unprefixed opcodes that transfer control (46_control.md). -/
def opTransfers (op : Byte) : Bool :=
  match fieldX op, fieldZ op with
  | 0, 0 => decide (3 ≤ (fieldY op).val)
  | 3, 0 | 3, 4 => decide ((fieldY op).val < 4)
  | 3, 1 => decide (op = 0xC9 ∨ op = 0xD9 ∨ op = 0xE9)
  | 3, 2 => decide ((fieldY op).val < 4)
  | 3, 3 => decide (op = 0xC3)
  | 3, 5 => decide (op = 0xCD)
  | 3, 7 => true
  | _, _ => false

/-- The 8-bit registers an instruction may write. The row of the prefix byte alone may write what any CB row writes. -/
def Instr.writesReg (i : Instr) (r : Reg8) : Bool :=
  match encode i with
  | [] => false
  | [op] => if op = 0xCB then true else opWritesReg op r
  | op :: op2 :: _ =>
    if op = 0xCB then decide (fieldX op2 ≠ 1) && decide (locOf (fieldZ op2) = .reg r) else opWritesReg op r

/-- The flags an instruction may write, as a mask over `F`. -/
def Instr.writesFlags (i : Instr) : Byte :=
  match encode i with
  | [] => 0x00
  | [op] => if op = 0xCB then 0xF0 else opWritesFlags op
  | op :: op2 :: _ =>
    if op = 0xCB then
      match fieldX op2 with
      | 0 => 0xF0
      | 1 => 0xE0
      | _ => 0x00
    else opWritesFlags op

/-- Does the instruction move `SP`. -/
def Instr.movesSp (i : Instr) : Bool :=
  match encode i with
  | [] => false
  | op :: _ => opMovesSp op

/-- Does the instruction transfer control. -/
def Instr.transfers (i : Instr) : Bool :=
  match encode i with
  | [] => false
  | op :: _ => opTransfers op

/-- The addresses an instruction stores to, by the expressions its meaning uses: the data address (44_load8.md), the two stack
cells below `SP` (20_memory.md rule R62), the two cells of `LD (a16),SP` (R57). Every other instruction stores nothing; the row of
the prefix byte alone may store to `(HL)`. -/
def Instr.storeAddresses (i : Instr) (s : Machine.State) : List Word :=
  match i with
  | .ldIndHlB | .ldIndHlC | .ldIndHlD | .ldIndHlE | .ldIndHlH | .ldIndHlL | .ldIndHlA
  | .ldIndHlD8 _ | .ldIndHlIncA | .ldIndHlDecA | .incIndHl | .decIndHl
  | .rlcIndHl | .rrcIndHl | .rlIndHl | .rrIndHl | .slaIndHl | .sraIndHl | .swapIndHl | .srlIndHl
  | .res0IndHl | .res1IndHl | .res2IndHl | .res3IndHl | .res4IndHl | .res5IndHl | .res6IndHl | .res7IndHl
  | .set0IndHl | .set1IndHl | .set2IndHl | .set3IndHl | .set4IndHl | .set5IndHl | .set6IndHl | .set7IndHl
  | .prefixCb => [s.hl]
  | .ldIndBcA => [s.bc]
  | .ldIndDeA => [s.de]
  | .ldIndA16A a => [a]
  | .ldhIndA8A o => [Machine.zeroPage o]
  | .ldIndCA => [Machine.zeroPage s.c]
  | .ldIndA16Sp a => [a, a + 1]
  | .pushBc | .pushDe | .pushHl | .pushAf | .callA16 _
  | .rst00 | .rst08 | .rst10 | .rst18 | .rst20 | .rst28 | .rst30 | .rst38 => [s.sp - 1, s.sp - 2]
  | .callNzA16 _ => if s.cond .nz then [s.sp - 1, s.sp - 2] else []
  | .callZA16 _ => if s.cond .z then [s.sp - 1, s.sp - 2] else []
  | .callNcA16 _ => if s.cond .nc then [s.sp - 1, s.sp - 2] else []
  | .callCA16 _ => if s.cond .c then [s.sp - 1, s.sp - 2] else []
  | _ => []

end Sys2Proof

namespace Sys2Proof.Machine

/-! ### The spec's arithmetic in plain numbers -/

/-- `F` holding the four flags and a zero low nibble, by bit weights (10_state.md rule R12). -/
def flagByte (z n h c : Bool) : Byte := BitVec.ofNat 8 (128 * z.toNat + 64 * n.toNat + 32 * h.toNat + 16 * c.toNat)

/-- `F.Z` (R12). -/
def State.zero (s : State) : Bool := s.f.getLsbD 7
/-- `F.N` (R12). -/
def State.subtract (s : State) : Bool := s.f.getLsbD 6
/-- `F.H` (R12). -/
def State.halfCarry (s : State) : Bool := s.f.getLsbD 5
/-- `F.C` (R12). -/
def State.carry (s : State) : Bool := s.f.getLsbD 4

/-- The Bool a condition code tests (46_control.md rule R240). -/
def State.holds (s : State) (cc : Cond) : Bool :=
  match cc with
  | .nz => s.zero == false
  | .z => s.zero == true
  | .nc => s.carry == false
  | .c => s.carry == true

/-- `a'` and `f'` are what the operation leaves in `A` and `F` (40_arith8.md rules R110 to R126, 41_logic8.md rules R140 to
R148): `a` is the old `A`, `b` the operand, `cin` the old carry. -/
def AluEffect (k : Alu) (a b : Byte) (cin : Bool) (a' f' : Byte) : Prop :=
  let x := a.toNat
  let y := b.toNat
  let ci := cin.toNat
  match k with
  | .add => a'.toNat = (x + y) % 256 ∧ f' = flagByte ((x + y) % 256 == 0) false (decide (x % 16 + y % 16 > 0xF)) (decide (x + y > 0xFF))
  | .adc => a'.toNat = (x + y + ci) % 256 ∧
      f' = flagByte ((x + y + ci) % 256 == 0) false (decide (x % 16 + y % 16 + ci > 0xF)) (decide (x + y + ci > 0xFF))
  | .sub => a'.toNat = (x + 256 - y) % 256 ∧ f' = flagByte (x == y) true (decide (x % 16 < y % 16)) (decide (x < y))
  | .sbc => a'.toNat = (x + 512 - y - ci) % 256 ∧
      f' = flagByte ((x + 512 - y - ci) % 256 == 0) true (decide (x % 16 < y % 16 + ci)) (decide (x < y + ci))
  | .and => a' = a &&& b ∧ f' = flagByte (a' == 0) false true false
  | .xor => a' = a ^^^ b ∧ f' = flagByte (a' == 0) false false false
  | .or => a' = a ||| b ∧ f' = flagByte (a' == 0) false false false
  | .cp => a' = a ∧ f' = flagByte (x == y) true (decide (x % 16 < y % 16)) (decide (x < y))

/-- `v'` is the result of the rotate or shift and `out` the bit shifted out (43_rotate_shift_bit.md rules R160 to R167); SWAP writes
C = 0 (R166). -/
def RotEffect (k : Rot) (v : Byte) (cin : Bool) (v' : Byte) (out : Bool) : Prop :=
  let x := v.toNat
  match k with
  | .rlc => v'.toNat = 2 * x % 256 + x / 128 ∧ out = decide (128 ≤ x)
  | .rrc => v'.toNat = x / 2 + 128 * (x % 2) ∧ out = (x % 2 == 1)
  | .rl => v'.toNat = 2 * x % 256 + cin.toNat ∧ out = decide (128 ≤ x)
  | .rr => v'.toNat = x / 2 + 128 * cin.toNat ∧ out = (x % 2 == 1)
  | .sla => v'.toNat = 2 * x % 256 ∧ out = decide (128 ≤ x)
  | .sra => v'.toNat = x / 2 + (if 128 ≤ x then 128 else 0) ∧ out = (x % 2 == 1)
  | .swap => v'.toNat = 16 * (x % 16) + x / 16 ∧ out = false
  | .srl => v'.toNat = x / 2 ∧ out = (x % 2 == 1)

/-- The index of an operand in `r8` (30_encoding.md rule R83). -/
def locCode (x : Loc) : Nat :=
  match x with
  | .reg .b => 0 | .reg .c => 1 | .reg .d => 2 | .reg .e => 3 | .reg .h => 4 | .reg .l => 5 | .indHl => 6 | .reg .a => 7

/-- The index of an operation in `alu` (R87). -/
def aluCode (k : Alu) : Nat :=
  match k with
  | .add => 0 | .adc => 1 | .sub => 2 | .sbc => 3 | .and => 4 | .xor => 5 | .or => 6 | .cp => 7

/-- The index of an operation in `rot` (R88). -/
def rotCode (k : Rot) : Nat :=
  match k with
  | .rlc => 0 | .rrc => 1 | .rl => 2 | .rr => 3 | .sla => 4 | .sra => 5 | .swap => 6 | .srl => 7

/-- The index of a pair in `rp` (R84). -/
def rpCode (x : Rp) : Nat :=
  match x with
  | .bc => 0 | .de => 1 | .hl => 2 | .sp => 3

/-- The index of a pair in `rp2` (R85). -/
def rp2Code (x : Rp2) : Nat :=
  match x with
  | .bc => 0 | .de => 1 | .hl => 2 | .af => 3

/-- The index of a condition in `cc` (R86). -/
def condCode (cc : Cond) : Nat :=
  match cc with
  | .nz => 0 | .z => 1 | .nc => 2 | .c => 3

/-- A byte of an encoding, from its value. -/
abbrev byteOf (n : Nat) : Byte := BitVec.ofNat 8 n

end Sys2Proof.Machine
end

