-- ==== Sys2Proof/Certificates/Slice0/Obligations.lean ====
section
/-! DEFINITION. The statements for the provers. Each docstring names the rule of spec/ it formalises, and, where a clause rests on a
choice that the spec marks as its own or that the model made, says so. Opcode bytes and the bit-level sheet are the spec's, which
marks them general knowledge (log 1). -/

open Sys2Proof Sys2Proof.Machine

/-! ### Encoding -/

/-- 30_encoding.md R81, R90 to R92, R94: decoding what the encoder writes gives the instruction back, whatever follows it. -/
def Obligations.DecodeOfEncode : Prop :=
  ∀ (i : Instr) (rest : List Byte), i.wellFormed = true → decode (encode i ++ rest) = .ok i

/-- The other direction: bytes that decode to a whole instruction begin with its encoding; only STOP's second byte is ignored (R96,
R262). -/
def Obligations.EncodeOfDecode : Prop :=
  ∀ (bytes : List Byte) (i : Instr), decode bytes = .ok i → i.wellFormed = true →
    (∃ rest, bytes = encode i ++ rest) ∨ (i = .stop ∧ ∃ rest, bytes = 0x10 :: rest)

/-- R90, R93: every first byte decodes, given the bytes it calls for, and the decode errors are exactly the eleven unassigned
bytes of the unprefixed table. -/
def Obligations.DecodeTotalElevenUnassigned : Prop :=
  ∀ (b0 b1 b2 : Byte) (rest : List Byte), ∃ i, decode (b0 :: b1 :: b2 :: rest) = .ok i ∧ i.wellFormed = true ∧
    (i.assigned = false ↔ b0 ∈ [0xD3, 0xDB, 0xDD, 0xE3, 0xE4, 0xEB, 0xEC, 0xED, 0xF4, 0xFC, 0xFD])

/-- R80: the length is 1, 2 or 3, is a function of the first byte alone, and is 2 after 0xCB. -/
def Obligations.LengthFromFirstByte : Prop :=
  ∀ i j : Instr, i.wellFormed = true → j.wellFormed = true →
    1 ≤ (encode i).length ∧ (encode i).length ≤ 3 ∧
    ((encode i).head? = (encode j).head? → (encode i).length = (encode j).length) ∧
    ((encode i).head? = some 0xCB → (encode i).length = 2)

/-- One byte sequence of each family, written out from R91 and R92, decodes to the instruction it stands for. -/
def Obligations.WrittenWordsDecode : Prop :=
  decode [0x00] = .ok .nop ∧ decode [0x3E, 0x42] = .ok (.ldAD8 0x42) ∧ decode [0xCB, 0xCB] = .ok .set1E ∧
  decode [0x8E] = .ok .adcAIndHl ∧ decode [0xE6, 0x0F] = .ok (.andD8 0x0F) ∧ decode [0x39] = .ok .addHlSp ∧
  decode [0x17] = .ok .rla ∧ decode [0x21, 0x34, 0x12] = .ok (.ldHlD16 0x1234) ∧ decode [0xF1] = .ok .popAf ∧
  decode [0xDC, 0x00, 0xD0] = .ok (.callCA16 0xD000) ∧ decode [0x76] = .ok .halt ∧ decode [0xDD] = .ok .illegalDD

/-! ### The Memory Router -/

/-- 20_memory.md R41, R42, R53, R54: the collaborator rows and the rows in no range of the document's table, as ranges; no other
address belongs to either. -/
def Obligations.RouterTable : Prop :=
  ∀ addr : Word,
    let within (r : Nat × Nat) : Prop := r.1 ≤ addr.toNat ∧ addr.toNat ≤ r.2
    (route addr = .collaborator .cartRomVram ↔ within (0x0000, 0x9FFF)) ∧
    (route addr = .collaborator .cartRam ↔ within (0xA000, 0xBFFF)) ∧
    (route addr = .collaborator .joypad ↔ within (0xFF00, 0xFF00)) ∧
    (route addr = .collaborator .serial ↔ within (0xFF01, 0xFF02)) ∧
    (route addr = .collaborator .timer ↔ within (0xFF04, 0xFF07)) ∧
    (route addr = .collaborator .audio ↔ within (0xFF10, 0xFF3F)) ∧
    (route addr = .collaborator .ppu ↔ ∃ r ∈ [(0xFF40, 0xFF45), (0xFF47, 0xFF4B), (0xFF4F, 0xFF4F), (0xFF68, 0xFF69)], within r) ∧
    (route addr = .collaborator .oamDma ↔ within (0xFF46, 0xFF46)) ∧
    (route addr = .collaborator .svbk ↔ within (0xFF70, 0xFF70)) ∧
    (route addr = .outOfRange ↔
      ∃ r ∈ [(0xFE00, 0xFEFF), (0xFF03, 0xFF03), (0xFF08, 0xFF0E), (0xFF4C, 0xFF4C), (0xFF4E, 0xFF4E), (0xFF50, 0xFF67),
        (0xFF6A, 0xFF6F), (0xFF71, 0xFF7E)], within r)

/-- R43, R44, R46, R48, R50 to R53: what a read of each row the core answers gives. The draw at 0xFF7F is decision D7 of the spec
(log 6). That a raising read leaves the rest of the state unchanged is decision D13 of the spec (R277, log 10). -/
def Obligations.RouterReads : Prop :=
  ∀ (s : State) (addr : Word),
    let n := addr.toNat
    (0xC000 ≤ n → n ≤ 0xDFFF → memRead addr s = .next (s.ram n, s)) ∧
    (0xE000 ≤ n → n ≤ 0xFDFF → memRead addr s = memRead (addr - 0x2000) s) ∧
    (0xFF80 ≤ n → n ≤ 0xFFFE → memRead addr s = .next (s.ram n, s)) ∧
    (n = 0xFF0F → memRead addr s = .next (s.ifr, s)) ∧
    (n = 0xFFFF → memRead addr s = .next (s.ie, s)) ∧
    (n = 0xFF4D → memRead addr s = .next (0x00, s)) ∧
    (n = 0xFF7F → ∃ v, memRead addr s = .next (v, { s with draws := s.draws + 1 })) ∧
    (route addr = .outOfRange → ∃ e, memRead addr s = .fault e ∧ e.cause = .addressOutOfRange addr ∧ StopsAt s (memRead addr s))

/-- R43, R44, R46, R48, R50 to R53: what a write of each row the core answers does. That a raising write leaves the rest of the
state unchanged is decision D13 of the spec (R277, log 10). -/
def Obligations.RouterWrites : Prop :=
  ∀ (s : State) (addr : Word) (v : Byte),
    let n := addr.toNat
    (0xC000 ≤ n ∧ n ≤ 0xDFFF ∨ 0xFF80 ≤ n ∧ n ≤ 0xFFFE →
      ∃ m : Memory, memWrite addr v s = .next { s with mem := m } ∧
        ∀ k, ({ s with mem := m } : State).ram k = if k = n then v else s.ram k) ∧
    (0xE000 ≤ n → n ≤ 0xFDFF → memWrite addr v s = memWrite (addr - 0x2000) v s) ∧
    (n = 0xFF0F → memWrite addr v s = .next { s with ifr := v }) ∧
    (n = 0xFFFF → memWrite addr v s = .next { s with ie := v }) ∧
    (n = 0xFF4D ∨ n = 0xFF7F → memWrite addr v s = .next s) ∧
    (route addr = .outOfRange → ∃ e, memWrite addr v s = .fault e ∧ e.cause = .addressOutOfRange addr ∧ StopsAt s (memWrite addr v s))

/-- R45, R47, R49: an access to a collaborator's region is handed to its handler, or is `NotImplemented`; a write to 0xFF46 or
0xFF70 has stored its latch first either way. That a read of those two never returns or touches the latch is decision D6 of the
spec. What a raising access leaves is decision D13 of the spec (R277, log 10); which regions have handlers, and what they answer,
is data of the model (log 3, 5); that an installed handler never rejects or fails is log 24. -/
def Obligations.CollaboratorAccess : Prop :=
  ∀ (s : State) (addr : Word) (g : Region) (v : Byte), route addr = .collaborator g →
    let latched : State := { s with
      dmaLatch := if addr = 0xFF46 then v else s.dmaLatch
      svbkLatch := if addr = 0xFF70 then v else s.svbkLatch }
    (s.hasHandler g = true →
      (∃ x, memRead addr s = .next (x, { s with calls := { region := g, addr := addr, access := .read } :: s.calls })) ∧
      memWrite addr v s = .next { latched with calls := { region := g, addr := addr, access := .write v } :: s.calls }) ∧
    (s.hasHandler g = false →
      (∃ e, memRead addr s = .fault e ∧ e.cause = .notImplemented g addr .read ∧ StopsAt s (memRead addr s)) ∧
      (∃ e, memWrite addr v s = .fault e ∧ e.cause = .notImplemented g addr (.write v) ∧ StopsAt latched (memWrite addr v s)))

/-- R44: a byte written to working RAM reads back at its echo, and a byte written to the echo reads back in working RAM. -/
def Obligations.EchoReadsBack : Prop :=
  ∀ (s : State) (addr : Word) (v : Byte), 0xC000 ≤ addr.toNat → addr.toNat ≤ 0xDDFF →
    (∃ t, memWrite addr v s = .next t ∧ memRead (addr + 0x2000) t = .next (v, t) ∧ memRead addr t = .next (v, t)) ∧
    (∃ t, memWrite (addr + 0x2000) v s = .next t ∧ memRead addr t = .next (v, t) ∧ memRead (addr + 0x2000) t = .next (v, t))

/-- 20_memory.md R42, R59: one byte write changes no other core-backed byte and no register but those mapped at the address: `IE`,
`IF`, `dma_latch` by 0xFF46 alone and `svbk_latch` by 0xFF70 alone (R47, R49); one that raises changes no byte at all. That a
raising write leaves the bytes as they were is decision D13 of the spec (R277, log 10). -/
def Obligations.WriteFrame : Prop :=
  ∀ (s : State) (addr : Word) (v : Byte),
    (∀ t, memWrite addr v s = .next t → OnlyBytesChange s t [addr] ∧
      (addr ≠ 0xFF46 → t.dmaLatch = s.dmaLatch) ∧ (addr ≠ 0xFF70 → t.svbkLatch = s.svbkLatch) ∧
      t = { s with mem := t.mem, ie := t.ie, ifr := t.ifr, dmaLatch := t.dmaLatch, svbkLatch := t.svbkLatch, calls := t.calls }) ∧
    (∀ e, memWrite addr v s = .fault e → OnlyBytesChange s e.left [])

/-- R61: `Fetch8()` reads at `pc` and advances it by one modulo 65536; where the read raises, its Fatal, `pc` not advanced, and so
ends the step of a core that would have executed. R61 states that `pc` has not advanced for the byte; that nothing else has changed
either is decision D13 of the spec (R277, log 10). -/
def Obligations.FetchByte : Prop :=
  ∀ s : State,
    (s.accessible s.pc = true → ∃ v t, memRead s.pc s = .next (v, t) ∧ fetch8 s = .next (v, { t with pc := s.pc + 1 })) ∧
    (s.accessible s.pc = false → ReadStops s s.pc (fetch8 s)) ∧
    (s.accessible s.pc = false → s.status = .running → s.envIrq = [] → s.halted = false → s.eiPending = false →
      s.ie &&& s.ifr &&& 0x1F = 0 → ∃ e, memRead s.pc s = .fault e ∧ step s = .fault e ∧ e.left.pc = s.pc)

/-! ### 8-bit arithmetic and logic -/

/-- 40_arith8.md R112, R115, R118, R121, R124 with R110, R111; 41_logic8.md R140, R143, R146: every 8-bit operation on `A` with a
register. The whole next state is stated, so nothing else changes. -/
def Obligations.AluRegister : Prop :=
  ∀ (s : State) (k : Alu) (r : Reg8),
    encode (Instr.mkAlu k (.reg r)) = [byteOf (0x80 + 8 * aluCode k + locCode (.reg r))] ∧
    ∃ a f, AluEffect k s.a (s.reg8 r) s.carry a f ∧ exec (Instr.mkAlu k (.reg r)) s = .next { s with a := a, f := f }

/-- R113, R116, R119, R122, R125, R141, R144, R147 with R110, R111: the same with the byte at `HL`; where that read raises, `A` and
`F` are unchanged. The rules state that `A` and `F` are unchanged where the read faults; that the whole state is, but for `status`
and the report, is decision D13 of the spec (R277, log 10). -/
def Obligations.AluIndirect : Prop :=
  ∀ (s : State) (k : Alu),
    encode (Instr.mkAlu k .indHl) = [byteOf (0x80 + 8 * aluCode k + 6)] ∧
    (s.accessible s.hl = true → ∃ v t a f, memRead s.hl s = .next (v, t) ∧ AluEffect k s.a v s.carry a f ∧
      exec (Instr.mkAlu k .indHl) s = .next { t with a := a, f := f }) ∧
    (s.accessible s.hl = false → ReadStops s s.hl (exec (Instr.mkAlu k .indHl) s))

/-- R114, R117, R120, R123, R126, R142, R145, R148 with R110, R111: the same with an immediate. -/
def Obligations.AluImmediate : Prop :=
  ∀ (s : State) (k : Alu) (d : Byte),
    encode (Instr.mkAluImm k d) = [byteOf (0xC6 + 8 * aluCode k), d] ∧
    ∃ a f, AluEffect k s.a d s.carry a f ∧ exec (Instr.mkAluImm k d) s = .next { s with a := a, f := f }

/-- R127, R129: `INC r8` and `DEC r8`; C unaffected. -/
def Obligations.IncDecRegister : Prop :=
  ∀ (s : State) (r : Reg8),
    let v := (s.reg8 r).toNat
    encode (Instr.mkInc (.reg r)) = [byteOf (0x04 + 8 * locCode (.reg r))] ∧
    encode (Instr.mkDec (.reg r)) = [byteOf (0x05 + 8 * locCode (.reg r))] ∧
    exec (Instr.mkInc (.reg r)) s =
      .next { s.setReg8 r (byteOf ((v + 1) % 256)) with f := flagByte ((v + 1) % 256 == 0) false (v % 16 == 15) s.carry } ∧
    exec (Instr.mkDec (.reg r)) s =
      .next { s.setReg8 r (byteOf ((v + 255) % 256)) with f := flagByte ((v + 255) % 256 == 0) true (v % 16 == 0) s.carry }

/-- R128, R130: `INC (HL)` and `DEC (HL)`: one read, then one write of the same address, then the flags. The rules say of a fault
only that the flags are not written where the write raises, which cannot happen where the read of the same address has not; that a
raising read leaves the whole state unchanged is decision D13 of the spec (R277, log 10). -/
def Obligations.IncDecIndirect : Prop :=
  ∀ s : State,
    encode .incIndHl = [0x34] ∧ encode .decIndHl = [0x35] ∧
    Modifies s (fun v => byteOf ((v.toNat + 1) % 256))
      (fun v u => { u with f := flagByte ((v.toNat + 1) % 256 == 0) false (v.toNat % 16 == 15) s.carry }) (exec .incIndHl s) ∧
    Modifies s (fun v => byteOf ((v.toNat + 255) % 256))
      (fun v u => { u with f := flagByte ((v.toNat + 255) % 256 == 0) true (v.toNat % 16 == 0) s.carry }) (exec .decIndHl s)

/-- R131: DAA, in the rule's own order, one correction after the other. -/
def Obligations.DecimalAdjust : Prop :=
  ∀ s : State,
    let r : Byte × Bool :=
      if s.subtract = false then
        let p : Byte × Bool := if s.carry = true ∨ s.a.toNat > 0x99 then (s.a + 0x60, true) else (s.a, s.carry)
        (if s.halfCarry = true ∨ p.1.toNat % 16 > 9 then p.1 + 0x06 else p.1, p.2)
      else
        let a := if s.carry = true then s.a - 0x60 else s.a
        (if s.halfCarry = true then a - 0x06 else a, s.carry)
    encode .daa = [0x27] ∧
    exec .daa s = .next { s with a := r.1, f := flagByte (r.1 == 0) s.subtract false r.2 }

/-- R131, "adjusts A to valid BCD": after ADC or SBC of two-digit BCD numbers, DAA leaves the BCD sum or difference modulo 100,
with the decimal carry or borrow in C. -/
def Obligations.DecimalAdjustGivesBcd : Prop :=
  ∀ (s : State) (r : Reg8) (x y : Nat), x < 100 → y < 100 →
    let bcd (n : Nat) : Byte := byteOf (16 * (n / 10) + n % 10)
    s.a = bcd x → s.reg8 r = bcd y →
    (∃ t u, exec (Instr.mkAlu .adc (.reg r)) s = .next t ∧ exec .daa t = .next u ∧
      u.a = bcd ((x + y + s.carry.toNat) % 100) ∧ u.carry = decide (100 ≤ x + y + s.carry.toNat)) ∧
    (∃ t u, exec (Instr.mkAlu .sbc (.reg r)) s = .next t ∧ exec .daa t = .next u ∧
      u.a = bcd ((x + 200 - y - s.carry.toNat) % 100) ∧ u.carry = decide (x < y + s.carry.toNat))

/-- R132, R133, R149: SCF, CCF, CPL. -/
def Obligations.ScfCcfCpl : Prop :=
  ∀ s : State,
    encode .scf = [0x37] ∧ encode .ccf = [0x3F] ∧ encode .cpl = [0x2F] ∧
    exec .scf s = .next { s with f := flagByte s.zero false false true } ∧
    exec .ccf s = .next { s with f := flagByte s.zero false false (!s.carry) } ∧
    exec .cpl s = .next { s with a := s.a ^^^ 0xFF, f := flagByte s.zero true true s.carry }

/-! ### 16-bit arithmetic and loads -/

/-- 42_arith16.md R150: `ADD HL,rr`. -/
def Obligations.AddHlPair : Prop :=
  ∀ (s : State) (x : Rp),
    let a := s.hl.toNat
    let b := (s.rp x).toNat
    encode (Instr.mkAddHl x) = [byteOf (0x09 + 16 * rpCode x)] ∧
    exec (Instr.mkAddHl x) s = .next { s with
      h := byteOf ((a + b) % 65536 / 256)
      l := byteOf ((a + b) % 256)
      f := flagByte s.zero false (decide (a % 4096 + b % 4096 > 0x0FFF)) (decide (a + b > 0xFFFF)) }

/-- R151, R152: `INC rr` and `DEC rr` modulo 65536, no flag. -/
def Obligations.IncDecPair : Prop :=
  ∀ (s : State) (x : Rp),
    encode (Instr.mkIncRp x) = [byteOf (0x03 + 16 * rpCode x)] ∧
    encode (Instr.mkDecRp x) = [byteOf (0x0B + 16 * rpCode x)] ∧
    exec (Instr.mkIncRp x) s = .next (s.setRp x (BitVec.ofNat 16 ((s.rp x).toNat + 1))) ∧
    exec (Instr.mkDecRp x) s = .next (s.setRp x (BitVec.ofNat 16 ((s.rp x).toNat + 65535)))

/-- R153, R154; 45_load16_stack.md R233: `ADD SP,e8` and `LD HL,SP+e8`: the displacement is signed, H and C are those of the
unsigned addition of the low bytes. -/
def Obligations.StackPointerOffset : Prop :=
  ∀ (s : State) (e : Byte),
    let sum := (s.sp.toNat + e.toNat + if 128 ≤ e.toNat then 0xFF00 else 0) % 65536
    let f := flagByte false false (decide (s.sp.toNat % 16 + e.toNat % 16 > 0x0F)) (decide (s.sp.toNat % 256 + e.toNat > 0xFF))
    encode (.addSpE8 e) = [0xE8, e] ∧ encode (.ldHlSpE8 e) = [0xF8, e] ∧
    exec (.addSpE8 e) s = .next { s with sp := BitVec.ofNat 16 sum, f := f } ∧
    exec (.ldHlSpE8 e) s = .next { s with h := byteOf (sum / 256), l := byteOf (sum % 256), f := f }

/-- 45_load16_stack.md R230, R232: `LD rr,d16` (little-endian) and `LD SP,HL`. -/
def Obligations.LoadPair : Prop :=
  ∀ (s : State) (x : Rp) (lo hi : Byte),
    decode [byteOf (0x01 + 16 * rpCode x), lo, hi] = .ok (Instr.mkLdRp x (joinBytes lo hi)) ∧
    exec (Instr.mkLdRp x (joinBytes lo hi)) s = .next (match x with
      | .bc => { s with b := hi, c := lo }
      | .de => { s with d := hi, e := lo }
      | .hl => { s with h := hi, l := lo }
      | .sp => { s with sp := BitVec.ofNat 16 (256 * hi.toNat + lo.toNat) }) ∧
    encode .ldSpHl = [0xF9] ∧
    exec .ldSpHl s = .next { s with sp := BitVec.ofNat 16 (256 * s.h.toNat + s.l.toNat) }

/-- R231, with 20_memory.md R57: `LD (a16),SP` stores the low byte at `a16`, then the high byte at `a16 + 1` modulo 65536. The
order of the two stores is decision D11 of the spec. What a raising store leaves is decision D13 of the spec (R277, log 10). -/
def Obligations.StoreStackPointer : Prop :=
  ∀ (s : State) (a : Word),
    encode (.ldIndA16Sp a) = [0x08, loByte a, hiByte a] ∧
    (s.accessible a = true → s.accessible (a + 1) = true →
      ∃ t u, memWrite a (loByte s.sp) s = .next t ∧ memWrite (a + 1) (hiByte s.sp) t = .next u ∧ exec (.ldIndA16Sp a) s = .next u) ∧
    (s.accessible a = false → ∃ e, memWrite a (loByte s.sp) s = .fault e ∧ exec (.ldIndA16Sp a) s = .fault e) ∧
    (∀ t, memWrite a (loByte s.sp) s = .next t → s.accessible (a + 1) = false →
      ∃ e, memWrite (a + 1) (hiByte s.sp) t = .fault e ∧ exec (.ldIndA16Sp a) s = .fault e)

/-! ### Rotates, shifts and bits -/

/-- 43_rotate_shift_bit.md R168 to R171 with R160 to R163: the accumulator rotates force Z to 0. -/
def Obligations.AccumulatorRotates : Prop :=
  ∀ (s : State) (p : Instr × Rot × Byte),
    p ∈ [(.rlca, .rlc, 0x07), (.rrca, .rrc, 0x0F), (.rla, .rl, 0x17), (.rra, .rr, 0x1F)] →
    encode p.1 = [p.2.2] ∧
    ∃ a c, RotEffect p.2.1 s.a s.carry a c ∧ exec p.1 s = .next { s with a := a, f := flagByte false false false c }

/-- R172, R174, R176, R178, R180, R182, R184, R186: the register forms of the CB rotates and shifts; Z tests the result. -/
def Obligations.RotateRegister : Prop :=
  ∀ (s : State) (k : Rot) (r : Reg8),
    encode (Instr.mkRot k (.reg r)) = [0xCB, byteOf (8 * rotCode k + locCode (.reg r))] ∧
    ∃ v c, RotEffect k (s.reg8 r) s.carry v c ∧
      exec (Instr.mkRot k (.reg r)) s =
        .next { s.setReg8 r v with f := flagByte (v == 0) false false c, report := .executed (.extendedCB 8) }

/-- R173, R175, R177, R179, R181, R183, R185, R187: the `(HL)` forms: read, then write back, then the flags. The rules speak only
of a raising write, which cannot happen where the read of the same address has not; that a raising read leaves the whole state
unchanged is decision D13 of the spec (R277, log 10). -/
def Obligations.RotateIndirect : Prop :=
  ∀ (s : State) (k : Rot),
    encode (Instr.mkRot k .indHl) = [0xCB, byteOf (8 * rotCode k + 6)] ∧
    (s.accessible s.hl = true → ∃ v t w c u, memRead s.hl s = .next (v, t) ∧ RotEffect k v s.carry w c ∧
      memWrite s.hl w t = .next u ∧
      exec (Instr.mkRot k .indHl) s =
        .next { u with f := flagByte (w == 0) false false c, report := .executed (.extendedCB 16) }) ∧
    (s.accessible s.hl = false → ReadStops s s.hl (exec (Instr.mkRot k .indHl) s))

/-- The laws of 43_rotate_shift_bit.md section 1, of the instructions: RLC then RRC, and SWAP twice, restore the register; RL then RR
restore the register and the carry. -/
def Obligations.RotatesInvert : Prop :=
  ∀ (s : State) (r : Reg8),
    (∃ t u, exec (Instr.mkRot .rlc (.reg r)) s = .next t ∧ exec (Instr.mkRot .rrc (.reg r)) t = .next u ∧ u.reg8 r = s.reg8 r) ∧
    (∃ t u, exec (Instr.mkRot .rrc (.reg r)) s = .next t ∧ exec (Instr.mkRot .rlc (.reg r)) t = .next u ∧ u.reg8 r = s.reg8 r) ∧
    (∃ t u, exec (Instr.mkRot .swap (.reg r)) s = .next t ∧ exec (Instr.mkRot .swap (.reg r)) t = .next u ∧ u.reg8 r = s.reg8 r) ∧
    (∃ t u, exec (Instr.mkRot .rl (.reg r)) s = .next t ∧ exec (Instr.mkRot .rr (.reg r)) t = .next u ∧
      u.reg8 r = s.reg8 r ∧ u.carry = s.carry) ∧
    (∃ t u, exec (Instr.mkRot .rr (.reg r)) s = .next t ∧ exec (Instr.mkRot .rl (.reg r)) t = .next u ∧
      u.reg8 r = s.reg8 r ∧ u.carry = s.carry)

/-- R188, R189: `BIT n`: Z is the complement of the bit, N 0, H 1, C kept; no operand is written. The rules do not say what a
raising read leaves; that it is the whole state unchanged is decision D13 of the spec (R277, log 10). -/
def Obligations.BitTest : Prop :=
  ∀ (s : State) (n : Fin 8) (r : Reg8),
    encode (Instr.mkBit n (.reg r)) = [0xCB, byteOf (0x40 + 8 * n.val + locCode (.reg r))] ∧
    encode (Instr.mkBit n .indHl) = [0xCB, byteOf (0x46 + 8 * n.val)] ∧
    exec (Instr.mkBit n (.reg r)) s = .next { s with
      f := flagByte ((s.reg8 r).toNat / 2 ^ n.val % 2 == 0) false true s.carry, report := .executed (.extendedCB 8) } ∧
    (s.accessible s.hl = true → ∃ v t, memRead s.hl s = .next (v, t) ∧ exec (Instr.mkBit n .indHl) s = .next { t with
      f := flagByte (v.toNat / 2 ^ n.val % 2 == 0) false true s.carry, report := .executed (.extendedCB 12) }) ∧
    (s.accessible s.hl = false → ReadStops s s.hl (exec (Instr.mkBit n .indHl) s))

/-- R190, R192: `RES n,r8` and `SET n,r8`: one bit, no flag. -/
def Obligations.ResSetRegister : Prop :=
  ∀ (s : State) (n : Fin 8) (r : Reg8),
    let v := s.reg8 r
    encode (Instr.mkRes n (.reg r)) = [0xCB, byteOf (0x80 + 8 * n.val + locCode (.reg r))] ∧
    encode (Instr.mkSet n (.reg r)) = [0xCB, byteOf (0xC0 + 8 * n.val + locCode (.reg r))] ∧
    ∃ x y : Byte, (∀ j < 8, x.getLsbD j = if j = n.val then false else v.getLsbD j) ∧
      (∀ j < 8, y.getLsbD j = if j = n.val then true else v.getLsbD j) ∧
      exec (Instr.mkRes n (.reg r)) s = .next { s.setReg8 r x with report := .executed (.extendedCB 8) } ∧
      exec (Instr.mkSet n (.reg r)) s = .next { s.setReg8 r y with report := .executed (.extendedCB 8) }

/-- R191, R193: `RES n,(HL)` and `SET n,(HL)`. The rules do not say what a raising access leaves; that a raising read leaves the
whole state unchanged is decision D13 of the spec (R277, log 10). -/
def Obligations.ResSetIndirect : Prop :=
  ∀ (s : State) (n : Fin 8),
    encode (Instr.mkRes n .indHl) = [0xCB, byteOf (0x86 + 8 * n.val)] ∧
    encode (Instr.mkSet n .indHl) = [0xCB, byteOf (0xC6 + 8 * n.val)] ∧
    Modifies s (fun v => v &&& BitVec.ofNat 8 (255 - 2 ^ n.val)) (fun _ u => { u with report := .executed (.extendedCB 16) })
      (exec (Instr.mkRes n .indHl) s) ∧
    Modifies s (fun v => v ||| BitVec.ofNat 8 (2 ^ n.val)) (fun _ u => { u with report := .executed (.extendedCB 16) })
      (exec (Instr.mkSet n .indHl) s)

/-! ### 8-bit loads -/

/-- 44_load8.md R200, R201: `LD r8,r8'` and `LD r8,d8`: the destination register, nothing else. -/
def Obligations.LoadRegister : Prop :=
  ∀ (s : State) (r q : Reg8) (d : Byte),
    encode (Instr.mkLd (.reg r) (.reg q)) = [byteOf (0x40 + 8 * locCode (.reg r) + locCode (.reg q))] ∧
    encode (Instr.mkLdImm (.reg r) d) = [byteOf (0x06 + 8 * locCode (.reg r)), d] ∧
    exec (Instr.mkLd (.reg r) (.reg q)) s = .next (s.setReg8 r (s.reg8 q)) ∧
    exec (Instr.mkLdImm (.reg r) d) s = .next (s.setReg8 r d)

/-- R202, R205, R206, R209, R211, R213, R216, R218 with 20_memory.md R64: every load from memory: the address it reads, the
register it writes, and the step of HL after the transfer; a read that raises writes nothing. 44_load8.md states that the
destination is not written and HL not stepped; that the whole state is unchanged is decision D13 of the spec (R277, log 10). -/
def Obligations.LoadFromMemory : Prop :=
  ∀ (s : State) (r : Reg8) (a : Word) (o : Byte),
    encode (Instr.mkLd (.reg r) .indHl) = [byteOf (0x46 + 8 * locCode (.reg r))] ∧
    encode .ldAIndBc = [0x0A] ∧ encode .ldAIndDe = [0x1A] ∧ encode (.ldAIndA16 a) = [0xFA, loByte a, hiByte a] ∧
    encode (.ldhAIndA8 o) = [0xF0, o] ∧ encode .ldAIndC = [0xF2] ∧ encode .ldAIndHlInc = [0x2A] ∧ encode .ldAIndHlDec = [0x3A] ∧
    Loads s s.hl r id (exec (Instr.mkLd (.reg r) .indHl) s) ∧
    Loads s s.bc .a id (exec .ldAIndBc s) ∧
    Loads s s.de .a id (exec .ldAIndDe s) ∧
    Loads s a .a id (exec (.ldAIndA16 a) s) ∧
    Loads s (BitVec.ofNat 16 (0xFF00 + o.toNat)) .a id (exec (.ldhAIndA8 o) s) ∧
    Loads s (BitVec.ofNat 16 (0xFF00 + s.c.toNat)) .a id (exec .ldAIndC s) ∧
    Loads s s.hl .a (fun u => u.setHl (s.hl + 1)) (exec .ldAIndHlInc s) ∧
    Loads s s.hl .a (fun u => u.setHl (s.hl - 1)) (exec .ldAIndHlDec s)

/-- R203, R204, R207, R208, R210, R212, R214, R215, R217 with R64: every 8-bit store: the address, the byte, and the step of HL
after the transfer; a store that raises leaves what that write leaves. 44_load8.md states that the memory is not written, but for
the latches, and HL not stepped; that the rest of the state is what that write leaves is decision D13 of the spec (R277, log 10).
-/
def Obligations.StoreToMemory : Prop :=
  ∀ (s : State) (r : Reg8) (a : Word) (d o : Byte),
    encode (Instr.mkLd .indHl (.reg r)) = [byteOf (0x70 + locCode (.reg r))] ∧ encode (.ldIndHlD8 d) = [0x36, d] ∧
    encode .ldIndBcA = [0x02] ∧ encode .ldIndDeA = [0x12] ∧ encode (.ldIndA16A a) = [0xEA, loByte a, hiByte a] ∧
    encode (.ldhIndA8A o) = [0xE0, o] ∧ encode .ldIndCA = [0xE2] ∧ encode .ldIndHlIncA = [0x22] ∧ encode .ldIndHlDecA = [0x32] ∧
    Stores s s.hl (s.reg8 r) id (exec (Instr.mkLd .indHl (.reg r)) s) ∧
    Stores s s.hl d id (exec (.ldIndHlD8 d) s) ∧
    Stores s s.bc s.a id (exec .ldIndBcA s) ∧
    Stores s s.de s.a id (exec .ldIndDeA s) ∧
    Stores s a s.a id (exec (.ldIndA16A a) s) ∧
    Stores s (BitVec.ofNat 16 (0xFF00 + o.toNat)) s.a id (exec (.ldhIndA8A o) s) ∧
    Stores s (BitVec.ofNat 16 (0xFF00 + s.c.toNat)) s.a id (exec .ldIndCA s) ∧
    Stores s s.hl s.a (fun u => u.setHl (s.hl + 1)) (exec .ldIndHlIncA s) ∧
    Stores s s.hl s.a (fun u => u.setHl (s.hl - 1)) (exec .ldIndHlDecA s)

/-! ### The stack -/

/-- 45_load16_stack.md R234 with 20_memory.md R62: `PUSH rr`: high byte first, at `sp - 1`, then the low byte at `sp - 2`; where
the first write raises, `sp` has moved by one and the second write has not happened. That a raising second write comes after the
first one and the second move of `sp`, and what else a raising write leaves, is decision D13 of the spec (R277, log 10). -/
def Obligations.PushStores : Prop :=
  ∀ (s : State) (x : Rp2),
    encode (Instr.mkPush x) = [byteOf (0xC5 + 16 * rp2Code x)] ∧
    (s.canPush = true → ∃ u, Pushed (s.rp2 x) s u ∧ exec (Instr.mkPush x) s = .next u) ∧
    (s.canPush = false → ∃ e, PushStops (s.rp2 x) s e ∧ exec (Instr.mkPush x) s = .fault e)

/-- R235, R236 with R63: `POP rr`: low byte first; the pair is written after both reads, and `POP AF` drops the low nibble; where
the second read raises, the pair, `F` of `AF` included, is unchanged and `sp` has moved by one. That a raising first read leaves
the whole state unchanged, and a raising second read everything else, is decision D13 of the spec (R277, log 10). -/
def Obligations.PopLoads : Prop :=
  ∀ (s : State) (x : Rp2),
    encode (Instr.mkPop x) = [byteOf (0xC1 + 16 * rp2Code x)] ∧
    (s.canPop = true → ∃ lo hi u, Popped lo hi s u ∧ exec (Instr.mkPop x) s = .next (match x with
      | .bc => { u with b := hi, c := lo }
      | .de => { u with d := hi, e := lo }
      | .hl => { u with h := hi, l := lo }
      | .af => { u with a := hi, f := lo &&& 0xF0 })) ∧
    (s.canPop = false → ∃ e, PopStops s e ∧ exec (Instr.mkPop x) s = .fault e ∧ (∀ r, e.left.reg8 r = s.reg8 r) ∧ e.left.f = s.f)

/-- R63: PUSH then POP of one pair restores it and leaves SP and every byte but the two cells unchanged, where both stack cells are
RAM and `F[3:0]` is zero, as it is in every state a run reaches (R12). -/
def Obligations.PushThenPop : Prop :=
  ∀ (s : State) (x : Rp2) (k₁ k₂ : Nat), s.f &&& 0x0F = 0 → route (s.sp - 1) = .ram k₁ → route (s.sp - 2) = .ram k₂ →
    ∃ t u, exec (Instr.mkPush x) s = .next t ∧ exec (Instr.mkPop x) t = .next u ∧ u = { s with mem := u.mem } ∧
      OnlyBytesChange s u [s.sp - 1, s.sp - 2]

/-! ### Control transfer -/

/-- 46_control.md R241, R243, R244: the unconditional jumps; JR adds the sign-extended displacement to the address of the next
instruction, which `pc` holds when the meaning runs. -/
def Obligations.Jumps : Prop :=
  ∀ (s : State) (a : Word) (e : Byte),
    encode (.jpA16 a) = [0xC3, loByte a, hiByte a] ∧ encode .jpHl = [0xE9] ∧ encode (.jrE8 e) = [0x18, e] ∧
    exec (.jpA16 a) s = .next { s with pc := a } ∧
    exec .jpHl s = .next { s with pc := s.hl } ∧
    exec (.jrE8 e) s = .next { s with pc := BitVec.ofNat 16 (s.pc.toNat + e.toNat + if 128 ≤ e.toNat then 0xFF00 else 0) }

/-- R242, R245 with R240: the conditional jumps, taken and not taken. -/
def Obligations.ConditionalJumps : Prop :=
  ∀ (s : State) (cc : Cond) (a : Word) (e : Byte),
    encode (Instr.mkJpCc cc a) = [byteOf (0xC2 + 8 * condCode cc), loByte a, hiByte a] ∧
    encode (Instr.mkJrCc cc e) = [byteOf (0x20 + 8 * condCode cc), e] ∧
    exec (Instr.mkJpCc cc a) s =
      .next (if s.holds cc = true then { s with pc := a, report := .executed .conditionalTaken } else s) ∧
    exec (Instr.mkJrCc cc e) s = .next (if s.holds cc = true then
      { s with
        pc := BitVec.ofNat 16 (s.pc.toNat + e.toNat + if 128 ≤ e.toNat then 0xFF00 else 0)
        report := .executed .conditionalTaken }
      else s)

/-- R246, R251: `CALL a16` and `RST n` push the address of the next instruction and transfer; where a write of the push raises,
that Fatal. R246 states what a raising push leaves of `pc` and `sp` for CALL; that RST leaves the same, and what else it leaves, is
decision D13 of the spec (R277, log 10). -/
def Obligations.CallAndRst : Prop :=
  ∀ (s : State) (a : Word) (y : Fin 8),
    encode (.callA16 a) = [0xCD, loByte a, hiByte a] ∧ encode (Instr.mkRst y) = [byteOf (0xC7 + 8 * y.val)] ∧
    (s.canPush = true → ∃ u, Pushed s.pc s u ∧ exec (.callA16 a) s = .next { u with pc := a } ∧
      exec (Instr.mkRst y) s = .next { u with pc := BitVec.ofNat 16 (8 * y.val) }) ∧
    (s.canPush = false → ∃ e, PushStops s.pc s e ∧ exec (.callA16 a) s = .fault e ∧ exec (Instr.mkRst y) s = .fault e ∧
      e.left.pc = s.pc)

/-- R247 with R240: `CALL cc,a16`: taken, as CALL, where a write of the push raises, that Fatal; not taken, no stack access. What a
raising push leaves is decision D13 of the spec (R277, log 10). -/
def Obligations.ConditionalCall : Prop :=
  ∀ (s : State) (cc : Cond) (a : Word),
    encode (Instr.mkCallCc cc a) = [byteOf (0xC4 + 8 * condCode cc), loByte a, hiByte a] ∧
    (s.holds cc = true → s.canPush = true → ∃ u, Pushed s.pc s u ∧
      exec (Instr.mkCallCc cc a) s = .next { u with pc := a, report := .executed .conditionalTaken }) ∧
    (s.holds cc = true → s.canPush = false → ∃ e, PushStops s.pc s e ∧ exec (Instr.mkCallCc cc a) s = .fault e ∧ e.left.pc = s.pc) ∧
    (s.holds cc = false → exec (Instr.mkCallCc cc a) s = .next s)

/-- R248, R249, R250 with R240: RET, `RET cc`, RETI: `pc` is popped; RETI sets IME as well and leaves `ei_pending`; where a read of
the pop raises, that Fatal, `pc` and IME unchanged. That `ei_pending` exists and RETI leaves it is part of decision D1 of the spec
(log 2); what a raising pop leaves is decision D13 of the spec (R277, log 10). -/
def Obligations.Returns : Prop :=
  ∀ (s : State) (cc : Cond),
    encode .ret = [0xC9] ∧ encode .reti = [0xD9] ∧ encode (Instr.mkRetCc cc) = [byteOf (0xC0 + 8 * condCode cc)] ∧
    (s.canPop = true → ∃ lo hi u, Popped lo hi s u ∧
      exec .ret s = .next { u with pc := joinBytes lo hi } ∧
      exec .reti s = .next { u with pc := joinBytes lo hi, ime := true } ∧
      (s.holds cc = true →
        exec (Instr.mkRetCc cc) s = .next { u with pc := joinBytes lo hi, report := .executed .conditionalTaken })) ∧
    (s.canPop = false → ∃ e, PopStops s e ∧ exec .ret s = .fault e ∧ exec .reti s = .fault e ∧
      (s.holds cc = true → exec (Instr.mkRetCc cc) s = .fault e)) ∧
    (s.holds cc = false → exec (Instr.mkRetCc cc) s = .next s)

/-! ### System instructions -/

/-- 47_system.md R260, R261, R263: NOP, HALT, DI. That `ei_pending` exists and DI clears it is part of decision D1 of the spec (log
2). -/
def Obligations.NopHaltDi : Prop :=
  ∀ s : State,
    encode .nop = [0x00] ∧ encode .halt = [0x76] ∧ encode .di = [0xF3] ∧
    exec .nop s = .next s ∧
    exec .halt s = .next { s with halted := true } ∧
    exec .di s = .next { s with ime := false, eiPending := false }

/-- R264: EI, for either value of `EI_DELAYED`. That the parameter exists is decision D1 of the spec (log 2). -/
def Obligations.EnableInterrupts : Prop :=
  ∀ s : State,
    encode .ei = [0xFB] ∧
    exec .ei s = .next (if s.platform.eiDelayed = true then { s with eiPending := true } else { s with ime := true })

/-- R262, R266: STOP and the eleven unassigned bytes stop, with the information the rules name and nothing else changed. That STOP
is fatal, and that the reported address is the byte's own, are decisions D12 and D5 of the spec (log 14, 15). That STOP leaves
nothing else changed is decision D13 of the spec (R277, log 10). -/
def Obligations.StopAndUnassignedStop : Prop :=
  ∀ s : State,
    (∃ e, exec .stop s = .fault e ∧ e.cause = .stopNotModelled (s.pc - 1) ∧ StopsAt s (exec .stop s)) ∧
    ∀ i : Instr, i.assigned = false → ∃ b e, encode i = [b] ∧
      exec i s = .fault e ∧ e.cause = .invalidOpcode b (s.pc - 1) s.sp ∧ StopsAt s (exec i s)

/-- R265: the row of the prefix fetches the second byte and executes the entry of the CB table whose encoding it completes; it
answers a state where that byte selects a register or `HL` can be accessed, and where the fetch of the second byte raises it ends
in that Fatal with nothing else changed. That the row has a meaning of its own is log 20 (DEDUCED: R265 says the prefix is no
instruction); that it answers a state is the completion of the CB entries, no sentence of R265; what a raising fetch leaves is
decision D13 of the spec (R277, log 10). -/
def Obligations.PrefixRunsCbEntry : Prop :=
  ∀ s : State,
    (s.accessible s.pc = true → ∃ op2 t i, memRead s.pc s = .next (op2, t) ∧ encode i = [0xCB, op2] ∧
      exec .prefixCb s = exec i { t with pc := s.pc + 1 } ∧
      (op2.toNat % 8 ≠ 6 ∨ s.accessible s.hl = true → ∃ u, exec .prefixCb s = .next u)) ∧
    (s.accessible s.pc = false → ReadStops s s.pc (exec .prefixCb s))

/-! ### The step -/

/-- 60_exceptions.md R270 with 30_encoding.md R89, R94 and 10_state.md R16: where no interrupt is dispatched and the core is not
halted, a step fetches the instruction's bytes, `pc` passing each, and is `exec` of the instruction they decode to. Around `exec`
it does what is written here: the environment's masks (R74), the wake (R283), the transfer of `ei_pending` into IME, and the default
timing class (R306). The places of those around the instruction are decisions D1, D3, D4, D9 of the spec. -/
def Obligations.StepRunsDecodedInstruction : Prop :=
  ∀ (s t : State) (bytes : List Byte) (i : Instr), s.status = .running →
    let s₀ := s.raiseEnvironment
    let s₁ : State := if s₀.ie &&& s₀.ifr &&& 0x1F = 0 then s₀ else { s₀ with halted := false }
    let s₂ : State := if s₁.eiPending = true then { s₁ with ime := true, eiPending := false } else s₁
    ¬ (s₀.ime = true ∧ s₀.ie &&& s₀.ifr &&& 0x1F ≠ 0) → s₁.halted = false →
    fetchBytes (fetchedBytes i) s₂ = .next (bytes, t) → decode bytes = .ok i → i.wellFormed = true →
    step s = exec i { t with report := .executed .default } ∧
    t = { s₂ with pc := s.pc + BitVec.ofNat 16 (fetchedBytes i), calls := t.calls, draws := t.draws }

/-- R282 with R279, R281, R24: with IME set and candidates pending, a step dispatches the candidate of least number: IME and that
bit cleared, `pc` pushed, `pc` at its vector, no instruction run. Where a write of the push raises, that Fatal, IME and the bit
already cleared (R286). That the step executes no instruction and that `ei_pending` is cleared are decisions D3 and D1 of the spec.
What a raising push leaves is decision D13 of the spec (R277, log 10); the schedule of masks is the model's (log 8). -/
def Obligations.DispatchEntersHandler : Prop :=
  ∀ (s : State) (n : Fin 5), s.status = .running →
    let s₀ := s.raiseEnvironment
    let pend := s₀.ie &&& s₀.ifr &&& 0x1F
    let s₁ : State := { s₀ with halted := false, ime := false, eiPending := false, ifr := s₀.ifr &&& BitVec.ofNat 8 (255 - 2 ^ n.val) }
    s₀.ime = true → pend.getLsbD n.val = true → (∀ j < n.val, pend.getLsbD j = false) →
    (s₁.canPush = true → ∃ u, Pushed s.pc s₁ u ∧
      step s = .next { u with pc := BitVec.ofNat 16 (0x40 + 8 * n.val), report := .interruptDispatch n }) ∧
    (s₁.canPush = false → ∃ e, PushStops s.pc s₁ e ∧ step s = .fault e)

/-- R283, R270: a halted core with no enabled-pending interrupt idles; one enabled-pending interrupt, whatever IME holds, makes the
step that of the core not halted. That an idle step changes nothing is decision D4 of the spec. -/
def Obligations.HaltIdlesAndWakes : Prop :=
  ∀ s : State, s.status = .running →
    let s₀ := s.raiseEnvironment
    (s₀.halted = true → s₀.ie &&& s₀.ifr &&& 0x1F = 0 → step s = .next { s₀ with report := .haltIdle }) ∧
    (s₀.ie &&& s₀.ifr &&& 0x1F ≠ 0 → step s = step { s with halted := false })

/-- 20_memory.md R74: between two steps the environment ORs a mask of bits 0 to 4 into `IF` and changes nothing else. That it acts
only there is decision D9 of the spec; the schedule of masks is the model's (log 8). -/
def Obligations.EnvironmentRaisesIf : Prop :=
  ∀ (s : State) (m : BitVec 5) (rest : List (BitVec 5)),
    step { s with envIrq := m :: rest } = step { s with envIrq := 0#5 :: rest, ifr := s.ifr ||| BitVec.ofNat 8 m.toNat } ∧
    (s.envIrq = [] → step s = step { s with envIrq := [0#5] })

/-- R271, R277: a step that answers a next state leaves the core running; one that raises leaves `status` holding the kind and its
information, and a faulted core takes no step. That `status` is state is decision D10 of the spec (log 10); that a faulted core is
refused is log 21 (DEDUCED). -/
def Obligations.StepOutcomes : Prop :=
  (∀ s t, step s = .next t → t.status = .running) ∧
  (∀ s e, step s = .fault e → e.left.status = .faulted e.cause) ∧
  (∀ s c, s.status = .faulted c → step s = .refused (.notRunning c)) ∧
  (∀ s, s.status = .running → ∀ x, step s ≠ .refused x)

/-- R272 to R276: the Fatal a step raises tells the truth: an unassigned byte at the address named, a collaborator region with no
handler, an address in no row, or STOP; `OperandCapability` is never raised. That `InvalidOpcode` names the byte's own address is
decision D5 of the spec (log 15), that STOP is fatal is decision D12 (log 14), and what `pc` holds after either is decision D13 of
the spec (R277, log 10). -/
def Obligations.FatalKinds : Prop :=
  ∀ (s : State) (e : Fault), step s = .fault e →
    match e.cause with
    | .invalidOpcode b p q =>
      b ∈ [0xD3, 0xDB, 0xDD, 0xE3, 0xE4, 0xEB, 0xEC, 0xED, 0xF4, 0xFC, 0xFD] ∧ e.left.pc = p + 1 ∧ p = s.pc ∧ q = s.sp
    | .notImplemented g addr _ => route addr = .collaborator g ∧ s.hasHandler g = false
    | .addressOutOfRange addr => route addr = .outOfRange
    | .operandCapability => False
    | .stopNotModelled p => p = s.pc ∧ e.left.pc = p + 1

/-- R282, R284, R285: RETI at once after a dispatch resumes the interrupted program: `pc`, `sp`, every register and every byte but
the two stack cells as before it, IME set again. That `ei_pending` is cleared is decision D1 of the spec (log 2), that the
dispatching step runs no instruction is decision D3 (log 23), and the schedule of masks is the model's (log 8). -/
def Obligations.DispatchThenReti : Prop :=
  ∀ (s : State) (n : Fin 5) (k₁ k₂ : Nat), s.status = .running →
    let s₀ := s.raiseEnvironment
    s₀.ime = true → (s₀.ie &&& s₀.ifr &&& 0x1F).getLsbD n.val = true → (∀ j < n.val, (s₀.ie &&& s₀.ifr &&& 0x1F).getLsbD j = false) →
    route (s.sp - 1) = .ram k₁ → route (s.sp - 2) = .ram k₂ →
    let s₁ : State := { s₀ with halted := false, eiPending := false, ifr := s₀.ifr &&& BitVec.ofNat 8 (255 - 2 ^ n.val) }
    ∃ t u, step s = .next t ∧ exec .reti t = .next u ∧ u = { s₁ with mem := u.mem, report := .interruptDispatch n } ∧
      OnlyBytesChange s₁ u [s.sp - 1, s.sp - 2]

/-! ### The whole machine -/

/-- 10_state.md R33 with R34, R300: the state after reset. The spec recommends these values and leaves most of them open (log 9, 17);
the default platform is R5's, and the model's own fields start as log 16 says. A reset event leaves the same core, whatever was
before (log 22). -/
def Obligations.ResetState : Prop :=
  State.reset.Wf ∧ State.reset.pc = 0x0100 ∧ State.reset.sp = 0xFFFE ∧ State.reset.af = 0x1180 ∧ State.reset.bc = 0x0000 ∧
  State.reset.de = 0xFF56 ∧ State.reset.hl = 0x000D ∧ State.reset.halted = false ∧ State.reset.ime = false ∧
  State.reset.ie = 0x00 ∧ State.reset.ifr = 0x00 ∧ State.reset.eiPending = false ∧ State.reset.dmaLatch = 0x00 ∧
  State.reset.svbkLatch = 0x00 ∧ State.reset.status = .running ∧ (∀ k, State.reset.ram k = Config.ramReset k) ∧
  (∀ s : State, s.afterReset = { State.reset with platform := s.platform, envIrq := s.envIrq, calls := s.calls, draws := s.draws })

/-- R37 with R12, R28: every step keeps what holds at every step boundary: `F[3:0] = 0`, `ei_pending` false unless `EI_DELAYED`,
memory in canonical form over the core's cells. That `ei_pending` is state is decision D1 of the spec (log 2); the canonical forms
of memory and image are the model's (log 3, 4). -/
def Obligations.StepKeepsWf : Prop :=
  ∀ s t : State, s.Wf → step s = .next t → t.Wf

/-- The frame over memory, of every instruction: outside the addresses it stores to, computed as its meaning computes them, every
core-backed byte reads as before; an instruction that stores nothing changes none. -/
def Obligations.FrameMemory : Prop :=
  ∀ (i : Instr) (s t : State), exec i s = .next t → OnlyBytesChange s t (i.storeAddresses s)

/-- The frame over registers and flags, of every instruction: a register that is not a destination is unchanged (10_state.md R32),
`SP` unless the instruction moves it (R15), each flag unless the table of 10_state.md section 8 names it (R19). -/
def Obligations.FrameRegistersAndFlags : Prop :=
  ∀ (i : Instr) (s t : State), exec i s = .next t →
    (∀ r, i.writesReg r = false → t.reg8 r = s.reg8 r) ∧
    (i.movesSp = false → t.sp = s.sp) ∧
    (∀ j, 4 ≤ j → j < 8 → i.writesFlags.getLsbD j = false → t.f.getLsbD j = s.f.getLsbD j) ∧
    (i.writesFlags = 0x00 → t.f = s.f)

/-- The frame over the rest of the state, of every instruction: IME only by EI, DI, RETI (R21), `ei_pending` only by EI and DI
(R28), `halted` only by HALT (R20), the latches only by a store to their address (R26, R27), `pc` only by a control transfer, the
fetches being the step's (R17); the status, the platform and the environment by none. That `ei_pending` is state is decision D1 of
the spec (log 2); the platform and the schedule are the model's fields (log 2, 3, 8). -/
def Obligations.FrameControlState : Prop :=
  ∀ (i : Instr) (s t : State), exec i s = .next t →
    (i ∉ [Instr.ei, .di, .reti] → t.ime = s.ime) ∧
    (i ∉ [Instr.ei, .di] → t.eiPending = s.eiPending) ∧
    (i ≠ .halt → t.halted = s.halted) ∧
    (i.transfers = false → i ≠ .prefixCb → t.pc = s.pc) ∧
    (0xFF46 ∉ i.storeAddresses s → t.dmaLatch = s.dmaLatch) ∧
    (0xFF70 ∉ i.storeAddresses s → t.svbkLatch = s.svbkLatch) ∧
    t.status = s.status ∧ t.platform = s.platform ∧ t.envIrq = s.envIrq

/-- R26, R27: no rule of the core reads the latches: two cores that differ in them alone take the same step, and differ after it in
them alone. The comparison of two runs rests on two choices of the model: a handler's answer is a function of the history of calls
(log 5), and the byte of a read of 0xFF7F a function of a counter (log 6); both entries are marked unsafe for such a claim. -/
def Obligations.LatchesNeverRead : Prop :=
  ∀ (s : State) (x y : Byte),
    match step s, step { s with dmaLatch := x, svbkLatch := y } with
    | .next t, .next t' => t = { t' with dmaLatch := t.dmaLatch, svbkLatch := t.svbkLatch }
    | .fault e, .fault e' => e.cause = e'.cause ∧ e.left = { e'.left with dmaLatch := e.left.dmaLatch, svbkLatch := e.left.svbkLatch }
    | .refused p, .refused q => p = q
    | _, _ => False
end

