-- ==== Sys2Proof/Laws/Memory.lean ====
section
/-! SUPPORT. The laws of memory: a read after a write, and that every memory operation keeps the canonical form and the cells the core
backs. -/

namespace Sys2Proof.Machine

/-- Reading the cell just written gives the value written. -/
@[simp] theorem Memory.read_write_self (m : Memory) (k : Nat) (v : Byte) : Memory.read (Memory.write m k v) k = some v := by
  induction m with
  | nil => simp [Memory.write, Memory.read]
  | cons c m ih =>
    simp only [Memory.write]
    split
    · simp [Memory.read]
    · split
      · simp [Memory.read]
      · rename_i h
        simp [Memory.read, Ne.symm h, ih]

/-- A write leaves every other cell alone. -/
theorem Memory.read_write_ne (m : Memory) (k j : Nat) (v : Byte) (h : k ≠ j) :
    Memory.read (Memory.write m k v) j = Memory.read m j := by
  induction m with
  | nil => simp [Memory.write, Memory.read, h]
  | cons c m ih =>
    simp only [Memory.write]
    split
    · simp [Memory.read, h]
    · split
      · rename_i hk
        simp [Memory.read, h, ← hk]
      · simp only [Memory.read, ih]

/-- A cell listed after a write is the one written or was listed before. -/
theorem Memory.mem_write {m : Memory} {k : Nat} {v : Byte} {c : Nat × Byte} (h : c ∈ Memory.write m k v) :
    c = (k, v) ∨ c ∈ m := by
  induction m with
  | nil => simpa [Memory.write] using h
  | cons d m ih =>
    simp only [Memory.write] at h
    split at h
    · simpa using h
    · split at h
      · rcases List.mem_cons.1 h with h | h
        · exact .inl h
        · exact .inr (List.mem_cons_of_mem _ h)
      · rcases List.mem_cons.1 h with h | h
        · exact .inr (h ▸ List.mem_cons_self)
        · exact (ih h).imp id (List.mem_cons_of_mem _)

/-- A write keeps the addresses strictly rising. -/
theorem Memory.wf_write {m : Memory} (hm : Memory.wf m) (k : Nat) (v : Byte) : Memory.wf (Memory.write m k v) := by
  induction m with
  | nil => simp [Memory.write, Memory.wf]
  | cons c m ih =>
    have hc : (∀ x ∈ m.map Prod.fst, c.1 < x) ∧ Memory.wf m := by simpa [Memory.wf, List.pairwise_cons] using hm
    simp only [Memory.write]
    split
    · rename_i hlt
      refine List.pairwise_cons.2 ⟨fun x hx => ?_, hm⟩
      rcases List.mem_cons.1 hx with hx | hx
      · exact hx ▸ hlt
      · exact lt_trans hlt (hc.1 x hx)
    · split
      · rename_i hk
        subst hk
        exact List.pairwise_cons.2 hc
      · refine List.pairwise_cons.2 ⟨fun x hx => ?_, ih hc.2⟩
        obtain ⟨y, hy, rfl⟩ := List.mem_map.1 hx
        rcases Memory.mem_write hy with rfl | hy
        · show c.1 < k
          omega
        · exact hc.1 _ (List.mem_map_of_mem hy)

/-- A write keeps every listed cell one of the core's. -/
theorem Memory.cells_write {m : Memory} (hm : ∀ c ∈ m, isCell c.1 = true) {k : Nat} (hk : isCell k = true) (v : Byte) :
    ∀ c ∈ Memory.write m k v, isCell c.1 = true := by
  intro c hc
  rcases Memory.mem_write hc with rfl | hc
  · exact hk
  · exact hm c hc

/-- RAM after a write: the cell written, or as before (20_memory.md rule R43). -/
theorem State.ram_write (s : State) (k j : Nat) (v : Byte) :
    ({ s with mem := Memory.write s.mem k v } : State).ram j = if j = k then v else s.ram j := by
  unfold State.ram
  split
  · rename_i h
    simp [h]
  · rename_i h
    rw [Memory.read_write_ne _ _ _ _ (Ne.symm h)]

/-- The two ways an `if` comes to a value. -/
theorem ite_eq_cases {α : Type} {p : Prop} [Decidable p] {a b c : α} (h : (if p then a else b) = c) :
    p ∧ a = c ∨ ¬p ∧ b = c := by
  by_cases hp : p
  · exact .inl ⟨hp, by simpa [hp] using h⟩
  · exact .inr ⟨hp, by simpa [hp] using h⟩

/-- The router sends an address to a cell only if the core backs it (R29, R30, R54). -/
theorem isCell_of_route {addr : Word} {k : Nat} (h : route addr = .ram k) : isCell k = true := by
  simp only [isCell, Bool.or_eq_true, Bool.and_eq_true, decide_eq_true_eq]
  dsimp only [route] at h
  generalize addr.toNat = n at h
  iterate 26
    rcases ite_eq_cases h with ⟨_, h'⟩ | ⟨_, h'⟩
    · first
        | (injection h' with h'; omega)
        | cases h'
    clear h
    rename' h' => h
  cases h

/-- Placing a byte from outside keeps what every step keeps. -/
theorem State.placeByte_wf {s : State} (hs : s.Wf) (addr : Word) (v : Byte) : (s.placeByte addr v).Wf := by
  unfold State.placeByte
  split
  · rename_i k hk
    exact ⟨hs.lowNibble, hs.eiPending, Memory.wf_write hs.memory _ _, Memory.cells_write hs.cells (isCell_of_route hk) _, hs.image⟩
  · exact ⟨hs.lowNibble, hs.eiPending, hs.memory, hs.cells, Memory.wf_write hs.image _ _⟩
  all_goals exact ⟨hs.lowNibble, hs.eiPending, hs.memory, hs.cells, hs.image⟩

end Sys2Proof.Machine
end

