-- ==== Sys2Proof/Laws/State.lean ====
section
/-! SUPPORT. One lemma per field per update of `State`, so that no proof unfolds an update: an update named in Ops.lean or Flags.lean
gives a field its new value, or leaves it. -/

namespace Sys2Proof.Machine

/-! ### `setBc` -/

@[simp] theorem State.setBc_a (s : State) (v : Word) : (s.setBc v).a = s.a := rfl
@[simp] theorem State.setBc_f (s : State) (v : Word) : (s.setBc v).f = s.f := rfl
@[simp] theorem State.setBc_b (s : State) (v : Word) : (s.setBc v).b = hiByte v := rfl
@[simp] theorem State.setBc_c (s : State) (v : Word) : (s.setBc v).c = loByte v := rfl
@[simp] theorem State.setBc_d (s : State) (v : Word) : (s.setBc v).d = s.d := rfl
@[simp] theorem State.setBc_e (s : State) (v : Word) : (s.setBc v).e = s.e := rfl
@[simp] theorem State.setBc_h (s : State) (v : Word) : (s.setBc v).h = s.h := rfl
@[simp] theorem State.setBc_l (s : State) (v : Word) : (s.setBc v).l = s.l := rfl
@[simp] theorem State.setBc_sp (s : State) (v : Word) : (s.setBc v).sp = s.sp := rfl
@[simp] theorem State.setBc_pc (s : State) (v : Word) : (s.setBc v).pc = s.pc := rfl
@[simp] theorem State.setBc_halted (s : State) (v : Word) : (s.setBc v).halted = s.halted := rfl
@[simp] theorem State.setBc_ime (s : State) (v : Word) : (s.setBc v).ime = s.ime := rfl
@[simp] theorem State.setBc_ie (s : State) (v : Word) : (s.setBc v).ie = s.ie := rfl
@[simp] theorem State.setBc_ifr (s : State) (v : Word) : (s.setBc v).ifr = s.ifr := rfl
@[simp] theorem State.setBc_dmaLatch (s : State) (v : Word) : (s.setBc v).dmaLatch = s.dmaLatch := rfl
@[simp] theorem State.setBc_svbkLatch (s : State) (v : Word) : (s.setBc v).svbkLatch = s.svbkLatch := rfl
@[simp] theorem State.setBc_eiPending (s : State) (v : Word) : (s.setBc v).eiPending = s.eiPending := rfl
@[simp] theorem State.setBc_mem (s : State) (v : Word) : (s.setBc v).mem = s.mem := rfl
@[simp] theorem State.setBc_status (s : State) (v : Word) : (s.setBc v).status = s.status := rfl
@[simp] theorem State.setBc_report (s : State) (v : Word) : (s.setBc v).report = s.report := rfl
@[simp] theorem State.setBc_platform (s : State) (v : Word) : (s.setBc v).platform = s.platform := rfl
@[simp] theorem State.setBc_envIrq (s : State) (v : Word) : (s.setBc v).envIrq = s.envIrq := rfl
@[simp] theorem State.setBc_calls (s : State) (v : Word) : (s.setBc v).calls = s.calls := rfl
@[simp] theorem State.setBc_draws (s : State) (v : Word) : (s.setBc v).draws = s.draws := rfl

/-! ### `setDe` -/

@[simp] theorem State.setDe_a (s : State) (v : Word) : (s.setDe v).a = s.a := rfl
@[simp] theorem State.setDe_f (s : State) (v : Word) : (s.setDe v).f = s.f := rfl
@[simp] theorem State.setDe_b (s : State) (v : Word) : (s.setDe v).b = s.b := rfl
@[simp] theorem State.setDe_c (s : State) (v : Word) : (s.setDe v).c = s.c := rfl
@[simp] theorem State.setDe_d (s : State) (v : Word) : (s.setDe v).d = hiByte v := rfl
@[simp] theorem State.setDe_e (s : State) (v : Word) : (s.setDe v).e = loByte v := rfl
@[simp] theorem State.setDe_h (s : State) (v : Word) : (s.setDe v).h = s.h := rfl
@[simp] theorem State.setDe_l (s : State) (v : Word) : (s.setDe v).l = s.l := rfl
@[simp] theorem State.setDe_sp (s : State) (v : Word) : (s.setDe v).sp = s.sp := rfl
@[simp] theorem State.setDe_pc (s : State) (v : Word) : (s.setDe v).pc = s.pc := rfl
@[simp] theorem State.setDe_halted (s : State) (v : Word) : (s.setDe v).halted = s.halted := rfl
@[simp] theorem State.setDe_ime (s : State) (v : Word) : (s.setDe v).ime = s.ime := rfl
@[simp] theorem State.setDe_ie (s : State) (v : Word) : (s.setDe v).ie = s.ie := rfl
@[simp] theorem State.setDe_ifr (s : State) (v : Word) : (s.setDe v).ifr = s.ifr := rfl
@[simp] theorem State.setDe_dmaLatch (s : State) (v : Word) : (s.setDe v).dmaLatch = s.dmaLatch := rfl
@[simp] theorem State.setDe_svbkLatch (s : State) (v : Word) : (s.setDe v).svbkLatch = s.svbkLatch := rfl
@[simp] theorem State.setDe_eiPending (s : State) (v : Word) : (s.setDe v).eiPending = s.eiPending := rfl
@[simp] theorem State.setDe_mem (s : State) (v : Word) : (s.setDe v).mem = s.mem := rfl
@[simp] theorem State.setDe_status (s : State) (v : Word) : (s.setDe v).status = s.status := rfl
@[simp] theorem State.setDe_report (s : State) (v : Word) : (s.setDe v).report = s.report := rfl
@[simp] theorem State.setDe_platform (s : State) (v : Word) : (s.setDe v).platform = s.platform := rfl
@[simp] theorem State.setDe_envIrq (s : State) (v : Word) : (s.setDe v).envIrq = s.envIrq := rfl
@[simp] theorem State.setDe_calls (s : State) (v : Word) : (s.setDe v).calls = s.calls := rfl
@[simp] theorem State.setDe_draws (s : State) (v : Word) : (s.setDe v).draws = s.draws := rfl

/-! ### `setHl` -/

@[simp] theorem State.setHl_a (s : State) (v : Word) : (s.setHl v).a = s.a := rfl
@[simp] theorem State.setHl_f (s : State) (v : Word) : (s.setHl v).f = s.f := rfl
@[simp] theorem State.setHl_b (s : State) (v : Word) : (s.setHl v).b = s.b := rfl
@[simp] theorem State.setHl_c (s : State) (v : Word) : (s.setHl v).c = s.c := rfl
@[simp] theorem State.setHl_d (s : State) (v : Word) : (s.setHl v).d = s.d := rfl
@[simp] theorem State.setHl_e (s : State) (v : Word) : (s.setHl v).e = s.e := rfl
@[simp] theorem State.setHl_h (s : State) (v : Word) : (s.setHl v).h = hiByte v := rfl
@[simp] theorem State.setHl_l (s : State) (v : Word) : (s.setHl v).l = loByte v := rfl
@[simp] theorem State.setHl_sp (s : State) (v : Word) : (s.setHl v).sp = s.sp := rfl
@[simp] theorem State.setHl_pc (s : State) (v : Word) : (s.setHl v).pc = s.pc := rfl
@[simp] theorem State.setHl_halted (s : State) (v : Word) : (s.setHl v).halted = s.halted := rfl
@[simp] theorem State.setHl_ime (s : State) (v : Word) : (s.setHl v).ime = s.ime := rfl
@[simp] theorem State.setHl_ie (s : State) (v : Word) : (s.setHl v).ie = s.ie := rfl
@[simp] theorem State.setHl_ifr (s : State) (v : Word) : (s.setHl v).ifr = s.ifr := rfl
@[simp] theorem State.setHl_dmaLatch (s : State) (v : Word) : (s.setHl v).dmaLatch = s.dmaLatch := rfl
@[simp] theorem State.setHl_svbkLatch (s : State) (v : Word) : (s.setHl v).svbkLatch = s.svbkLatch := rfl
@[simp] theorem State.setHl_eiPending (s : State) (v : Word) : (s.setHl v).eiPending = s.eiPending := rfl
@[simp] theorem State.setHl_mem (s : State) (v : Word) : (s.setHl v).mem = s.mem := rfl
@[simp] theorem State.setHl_status (s : State) (v : Word) : (s.setHl v).status = s.status := rfl
@[simp] theorem State.setHl_report (s : State) (v : Word) : (s.setHl v).report = s.report := rfl
@[simp] theorem State.setHl_platform (s : State) (v : Word) : (s.setHl v).platform = s.platform := rfl
@[simp] theorem State.setHl_envIrq (s : State) (v : Word) : (s.setHl v).envIrq = s.envIrq := rfl
@[simp] theorem State.setHl_calls (s : State) (v : Word) : (s.setHl v).calls = s.calls := rfl
@[simp] theorem State.setHl_draws (s : State) (v : Word) : (s.setHl v).draws = s.draws := rfl

/-! ### `setAf` -/

@[simp] theorem State.setAf_a (s : State) (v : Word) : (s.setAf v).a = hiByte v := rfl
@[simp] theorem State.setAf_f (s : State) (v : Word) : (s.setAf v).f = loByte v &&& 0xF0 := rfl
@[simp] theorem State.setAf_b (s : State) (v : Word) : (s.setAf v).b = s.b := rfl
@[simp] theorem State.setAf_c (s : State) (v : Word) : (s.setAf v).c = s.c := rfl
@[simp] theorem State.setAf_d (s : State) (v : Word) : (s.setAf v).d = s.d := rfl
@[simp] theorem State.setAf_e (s : State) (v : Word) : (s.setAf v).e = s.e := rfl
@[simp] theorem State.setAf_h (s : State) (v : Word) : (s.setAf v).h = s.h := rfl
@[simp] theorem State.setAf_l (s : State) (v : Word) : (s.setAf v).l = s.l := rfl
@[simp] theorem State.setAf_sp (s : State) (v : Word) : (s.setAf v).sp = s.sp := rfl
@[simp] theorem State.setAf_pc (s : State) (v : Word) : (s.setAf v).pc = s.pc := rfl
@[simp] theorem State.setAf_halted (s : State) (v : Word) : (s.setAf v).halted = s.halted := rfl
@[simp] theorem State.setAf_ime (s : State) (v : Word) : (s.setAf v).ime = s.ime := rfl
@[simp] theorem State.setAf_ie (s : State) (v : Word) : (s.setAf v).ie = s.ie := rfl
@[simp] theorem State.setAf_ifr (s : State) (v : Word) : (s.setAf v).ifr = s.ifr := rfl
@[simp] theorem State.setAf_dmaLatch (s : State) (v : Word) : (s.setAf v).dmaLatch = s.dmaLatch := rfl
@[simp] theorem State.setAf_svbkLatch (s : State) (v : Word) : (s.setAf v).svbkLatch = s.svbkLatch := rfl
@[simp] theorem State.setAf_eiPending (s : State) (v : Word) : (s.setAf v).eiPending = s.eiPending := rfl
@[simp] theorem State.setAf_mem (s : State) (v : Word) : (s.setAf v).mem = s.mem := rfl
@[simp] theorem State.setAf_status (s : State) (v : Word) : (s.setAf v).status = s.status := rfl
@[simp] theorem State.setAf_report (s : State) (v : Word) : (s.setAf v).report = s.report := rfl
@[simp] theorem State.setAf_platform (s : State) (v : Word) : (s.setAf v).platform = s.platform := rfl
@[simp] theorem State.setAf_envIrq (s : State) (v : Word) : (s.setAf v).envIrq = s.envIrq := rfl
@[simp] theorem State.setAf_calls (s : State) (v : Word) : (s.setAf v).calls = s.calls := rfl
@[simp] theorem State.setAf_draws (s : State) (v : Word) : (s.setAf v).draws = s.draws := rfl

/-! ### `setFlags` -/

@[simp] theorem State.setFlags_a (s : State) (fl : Flags) : (s.setFlags fl).a = s.a := rfl
@[simp] theorem State.setFlags_f (s : State) (fl : Flags) : (s.setFlags fl).f = fl.toByte := rfl
@[simp] theorem State.setFlags_b (s : State) (fl : Flags) : (s.setFlags fl).b = s.b := rfl
@[simp] theorem State.setFlags_c (s : State) (fl : Flags) : (s.setFlags fl).c = s.c := rfl
@[simp] theorem State.setFlags_d (s : State) (fl : Flags) : (s.setFlags fl).d = s.d := rfl
@[simp] theorem State.setFlags_e (s : State) (fl : Flags) : (s.setFlags fl).e = s.e := rfl
@[simp] theorem State.setFlags_h (s : State) (fl : Flags) : (s.setFlags fl).h = s.h := rfl
@[simp] theorem State.setFlags_l (s : State) (fl : Flags) : (s.setFlags fl).l = s.l := rfl
@[simp] theorem State.setFlags_sp (s : State) (fl : Flags) : (s.setFlags fl).sp = s.sp := rfl
@[simp] theorem State.setFlags_pc (s : State) (fl : Flags) : (s.setFlags fl).pc = s.pc := rfl
@[simp] theorem State.setFlags_halted (s : State) (fl : Flags) : (s.setFlags fl).halted = s.halted := rfl
@[simp] theorem State.setFlags_ime (s : State) (fl : Flags) : (s.setFlags fl).ime = s.ime := rfl
@[simp] theorem State.setFlags_ie (s : State) (fl : Flags) : (s.setFlags fl).ie = s.ie := rfl
@[simp] theorem State.setFlags_ifr (s : State) (fl : Flags) : (s.setFlags fl).ifr = s.ifr := rfl
@[simp] theorem State.setFlags_dmaLatch (s : State) (fl : Flags) : (s.setFlags fl).dmaLatch = s.dmaLatch := rfl
@[simp] theorem State.setFlags_svbkLatch (s : State) (fl : Flags) : (s.setFlags fl).svbkLatch = s.svbkLatch := rfl
@[simp] theorem State.setFlags_eiPending (s : State) (fl : Flags) : (s.setFlags fl).eiPending = s.eiPending := rfl
@[simp] theorem State.setFlags_mem (s : State) (fl : Flags) : (s.setFlags fl).mem = s.mem := rfl
@[simp] theorem State.setFlags_status (s : State) (fl : Flags) : (s.setFlags fl).status = s.status := rfl
@[simp] theorem State.setFlags_report (s : State) (fl : Flags) : (s.setFlags fl).report = s.report := rfl
@[simp] theorem State.setFlags_platform (s : State) (fl : Flags) : (s.setFlags fl).platform = s.platform := rfl
@[simp] theorem State.setFlags_envIrq (s : State) (fl : Flags) : (s.setFlags fl).envIrq = s.envIrq := rfl
@[simp] theorem State.setFlags_calls (s : State) (fl : Flags) : (s.setFlags fl).calls = s.calls := rfl
@[simp] theorem State.setFlags_draws (s : State) (fl : Flags) : (s.setFlags fl).draws = s.draws := rfl

/-! ### `setTiming` -/

@[simp] theorem State.setTiming_a (s : State) (x : Timing) : (s.setTiming x).a = s.a := rfl
@[simp] theorem State.setTiming_f (s : State) (x : Timing) : (s.setTiming x).f = s.f := rfl
@[simp] theorem State.setTiming_b (s : State) (x : Timing) : (s.setTiming x).b = s.b := rfl
@[simp] theorem State.setTiming_c (s : State) (x : Timing) : (s.setTiming x).c = s.c := rfl
@[simp] theorem State.setTiming_d (s : State) (x : Timing) : (s.setTiming x).d = s.d := rfl
@[simp] theorem State.setTiming_e (s : State) (x : Timing) : (s.setTiming x).e = s.e := rfl
@[simp] theorem State.setTiming_h (s : State) (x : Timing) : (s.setTiming x).h = s.h := rfl
@[simp] theorem State.setTiming_l (s : State) (x : Timing) : (s.setTiming x).l = s.l := rfl
@[simp] theorem State.setTiming_sp (s : State) (x : Timing) : (s.setTiming x).sp = s.sp := rfl
@[simp] theorem State.setTiming_pc (s : State) (x : Timing) : (s.setTiming x).pc = s.pc := rfl
@[simp] theorem State.setTiming_halted (s : State) (x : Timing) : (s.setTiming x).halted = s.halted := rfl
@[simp] theorem State.setTiming_ime (s : State) (x : Timing) : (s.setTiming x).ime = s.ime := rfl
@[simp] theorem State.setTiming_ie (s : State) (x : Timing) : (s.setTiming x).ie = s.ie := rfl
@[simp] theorem State.setTiming_ifr (s : State) (x : Timing) : (s.setTiming x).ifr = s.ifr := rfl
@[simp] theorem State.setTiming_dmaLatch (s : State) (x : Timing) : (s.setTiming x).dmaLatch = s.dmaLatch := rfl
@[simp] theorem State.setTiming_svbkLatch (s : State) (x : Timing) : (s.setTiming x).svbkLatch = s.svbkLatch := rfl
@[simp] theorem State.setTiming_eiPending (s : State) (x : Timing) : (s.setTiming x).eiPending = s.eiPending := rfl
@[simp] theorem State.setTiming_mem (s : State) (x : Timing) : (s.setTiming x).mem = s.mem := rfl
@[simp] theorem State.setTiming_status (s : State) (x : Timing) : (s.setTiming x).status = s.status := rfl
@[simp] theorem State.setTiming_report (s : State) (x : Timing) : (s.setTiming x).report = .executed x := rfl
@[simp] theorem State.setTiming_platform (s : State) (x : Timing) : (s.setTiming x).platform = s.platform := rfl
@[simp] theorem State.setTiming_envIrq (s : State) (x : Timing) : (s.setTiming x).envIrq = s.envIrq := rfl
@[simp] theorem State.setTiming_calls (s : State) (x : Timing) : (s.setTiming x).calls = s.calls := rfl
@[simp] theorem State.setTiming_draws (s : State) (x : Timing) : (s.setTiming x).draws = s.draws := rfl

/-! ### `logCall` -/

@[simp] theorem State.logCall_a (s : State) (g : Region) (p : Word) (x : Access) : (s.logCall g p x).a = s.a := rfl
@[simp] theorem State.logCall_f (s : State) (g : Region) (p : Word) (x : Access) : (s.logCall g p x).f = s.f := rfl
@[simp] theorem State.logCall_b (s : State) (g : Region) (p : Word) (x : Access) : (s.logCall g p x).b = s.b := rfl
@[simp] theorem State.logCall_c (s : State) (g : Region) (p : Word) (x : Access) : (s.logCall g p x).c = s.c := rfl
@[simp] theorem State.logCall_d (s : State) (g : Region) (p : Word) (x : Access) : (s.logCall g p x).d = s.d := rfl
@[simp] theorem State.logCall_e (s : State) (g : Region) (p : Word) (x : Access) : (s.logCall g p x).e = s.e := rfl
@[simp] theorem State.logCall_h (s : State) (g : Region) (p : Word) (x : Access) : (s.logCall g p x).h = s.h := rfl
@[simp] theorem State.logCall_l (s : State) (g : Region) (p : Word) (x : Access) : (s.logCall g p x).l = s.l := rfl
@[simp] theorem State.logCall_sp (s : State) (g : Region) (p : Word) (x : Access) : (s.logCall g p x).sp = s.sp := rfl
@[simp] theorem State.logCall_pc (s : State) (g : Region) (p : Word) (x : Access) : (s.logCall g p x).pc = s.pc := rfl
@[simp] theorem State.logCall_halted (s : State) (g : Region) (p : Word) (x : Access) : (s.logCall g p x).halted = s.halted := rfl
@[simp] theorem State.logCall_ime (s : State) (g : Region) (p : Word) (x : Access) : (s.logCall g p x).ime = s.ime := rfl
@[simp] theorem State.logCall_ie (s : State) (g : Region) (p : Word) (x : Access) : (s.logCall g p x).ie = s.ie := rfl
@[simp] theorem State.logCall_ifr (s : State) (g : Region) (p : Word) (x : Access) : (s.logCall g p x).ifr = s.ifr := rfl
@[simp] theorem State.logCall_dmaLatch (s : State) (g : Region) (p : Word) (x : Access) : (s.logCall g p x).dmaLatch = s.dmaLatch := rfl
@[simp] theorem State.logCall_svbkLatch (s : State) (g : Region) (p : Word) (x : Access) : (s.logCall g p x).svbkLatch = s.svbkLatch := rfl
@[simp] theorem State.logCall_eiPending (s : State) (g : Region) (p : Word) (x : Access) : (s.logCall g p x).eiPending = s.eiPending := rfl
@[simp] theorem State.logCall_mem (s : State) (g : Region) (p : Word) (x : Access) : (s.logCall g p x).mem = s.mem := rfl
@[simp] theorem State.logCall_status (s : State) (g : Region) (p : Word) (x : Access) : (s.logCall g p x).status = s.status := rfl
@[simp] theorem State.logCall_report (s : State) (g : Region) (p : Word) (x : Access) : (s.logCall g p x).report = s.report := rfl
@[simp] theorem State.logCall_platform (s : State) (g : Region) (p : Word) (x : Access) : (s.logCall g p x).platform = s.platform := rfl
@[simp] theorem State.logCall_envIrq (s : State) (g : Region) (p : Word) (x : Access) : (s.logCall g p x).envIrq = s.envIrq := rfl
@[simp] theorem State.logCall_calls (s : State) (g : Region) (p : Word) (x : Access) : (s.logCall g p x).calls = { region := g, addr := p, access := x } :: s.calls := rfl
@[simp] theorem State.logCall_draws (s : State) (g : Region) (p : Word) (x : Access) : (s.logCall g p x).draws = s.draws := rfl

/-! ### `setReg8` -/

@[simp] theorem State.setReg8_f (s : State) (r : Reg8) (v : Byte) : (s.setReg8 r v).f = s.f := by cases r <;> rfl
@[simp] theorem State.setReg8_sp (s : State) (r : Reg8) (v : Byte) : (s.setReg8 r v).sp = s.sp := by cases r <;> rfl
@[simp] theorem State.setReg8_pc (s : State) (r : Reg8) (v : Byte) : (s.setReg8 r v).pc = s.pc := by cases r <;> rfl
@[simp] theorem State.setReg8_halted (s : State) (r : Reg8) (v : Byte) : (s.setReg8 r v).halted = s.halted := by cases r <;> rfl
@[simp] theorem State.setReg8_ime (s : State) (r : Reg8) (v : Byte) : (s.setReg8 r v).ime = s.ime := by cases r <;> rfl
@[simp] theorem State.setReg8_ie (s : State) (r : Reg8) (v : Byte) : (s.setReg8 r v).ie = s.ie := by cases r <;> rfl
@[simp] theorem State.setReg8_ifr (s : State) (r : Reg8) (v : Byte) : (s.setReg8 r v).ifr = s.ifr := by cases r <;> rfl
@[simp] theorem State.setReg8_dmaLatch (s : State) (r : Reg8) (v : Byte) : (s.setReg8 r v).dmaLatch = s.dmaLatch := by cases r <;> rfl
@[simp] theorem State.setReg8_svbkLatch (s : State) (r : Reg8) (v : Byte) : (s.setReg8 r v).svbkLatch = s.svbkLatch := by cases r <;> rfl
@[simp] theorem State.setReg8_eiPending (s : State) (r : Reg8) (v : Byte) : (s.setReg8 r v).eiPending = s.eiPending := by cases r <;> rfl
@[simp] theorem State.setReg8_mem (s : State) (r : Reg8) (v : Byte) : (s.setReg8 r v).mem = s.mem := by cases r <;> rfl
@[simp] theorem State.setReg8_status (s : State) (r : Reg8) (v : Byte) : (s.setReg8 r v).status = s.status := by cases r <;> rfl
@[simp] theorem State.setReg8_report (s : State) (r : Reg8) (v : Byte) : (s.setReg8 r v).report = s.report := by cases r <;> rfl
@[simp] theorem State.setReg8_platform (s : State) (r : Reg8) (v : Byte) : (s.setReg8 r v).platform = s.platform := by cases r <;> rfl
@[simp] theorem State.setReg8_envIrq (s : State) (r : Reg8) (v : Byte) : (s.setReg8 r v).envIrq = s.envIrq := by cases r <;> rfl
@[simp] theorem State.setReg8_calls (s : State) (r : Reg8) (v : Byte) : (s.setReg8 r v).calls = s.calls := by cases r <;> rfl
@[simp] theorem State.setReg8_draws (s : State) (r : Reg8) (v : Byte) : (s.setReg8 r v).draws = s.draws := by cases r <;> rfl

/-! ### `setRp` -/

@[simp] theorem State.setRp_a (s : State) (r : Rp) (v : Word) : (s.setRp r v).a = s.a := by cases r <;> rfl
@[simp] theorem State.setRp_f (s : State) (r : Rp) (v : Word) : (s.setRp r v).f = s.f := by cases r <;> rfl
@[simp] theorem State.setRp_pc (s : State) (r : Rp) (v : Word) : (s.setRp r v).pc = s.pc := by cases r <;> rfl
@[simp] theorem State.setRp_halted (s : State) (r : Rp) (v : Word) : (s.setRp r v).halted = s.halted := by cases r <;> rfl
@[simp] theorem State.setRp_ime (s : State) (r : Rp) (v : Word) : (s.setRp r v).ime = s.ime := by cases r <;> rfl
@[simp] theorem State.setRp_ie (s : State) (r : Rp) (v : Word) : (s.setRp r v).ie = s.ie := by cases r <;> rfl
@[simp] theorem State.setRp_ifr (s : State) (r : Rp) (v : Word) : (s.setRp r v).ifr = s.ifr := by cases r <;> rfl
@[simp] theorem State.setRp_dmaLatch (s : State) (r : Rp) (v : Word) : (s.setRp r v).dmaLatch = s.dmaLatch := by cases r <;> rfl
@[simp] theorem State.setRp_svbkLatch (s : State) (r : Rp) (v : Word) : (s.setRp r v).svbkLatch = s.svbkLatch := by cases r <;> rfl
@[simp] theorem State.setRp_eiPending (s : State) (r : Rp) (v : Word) : (s.setRp r v).eiPending = s.eiPending := by cases r <;> rfl
@[simp] theorem State.setRp_mem (s : State) (r : Rp) (v : Word) : (s.setRp r v).mem = s.mem := by cases r <;> rfl
@[simp] theorem State.setRp_status (s : State) (r : Rp) (v : Word) : (s.setRp r v).status = s.status := by cases r <;> rfl
@[simp] theorem State.setRp_report (s : State) (r : Rp) (v : Word) : (s.setRp r v).report = s.report := by cases r <;> rfl
@[simp] theorem State.setRp_platform (s : State) (r : Rp) (v : Word) : (s.setRp r v).platform = s.platform := by cases r <;> rfl
@[simp] theorem State.setRp_envIrq (s : State) (r : Rp) (v : Word) : (s.setRp r v).envIrq = s.envIrq := by cases r <;> rfl
@[simp] theorem State.setRp_calls (s : State) (r : Rp) (v : Word) : (s.setRp r v).calls = s.calls := by cases r <;> rfl
@[simp] theorem State.setRp_draws (s : State) (r : Rp) (v : Word) : (s.setRp r v).draws = s.draws := by cases r <;> rfl

/-! ### `setRp2` -/

@[simp] theorem State.setRp2_sp (s : State) (r : Rp2) (v : Word) : (s.setRp2 r v).sp = s.sp := by cases r <;> rfl
@[simp] theorem State.setRp2_pc (s : State) (r : Rp2) (v : Word) : (s.setRp2 r v).pc = s.pc := by cases r <;> rfl
@[simp] theorem State.setRp2_halted (s : State) (r : Rp2) (v : Word) : (s.setRp2 r v).halted = s.halted := by cases r <;> rfl
@[simp] theorem State.setRp2_ime (s : State) (r : Rp2) (v : Word) : (s.setRp2 r v).ime = s.ime := by cases r <;> rfl
@[simp] theorem State.setRp2_ie (s : State) (r : Rp2) (v : Word) : (s.setRp2 r v).ie = s.ie := by cases r <;> rfl
@[simp] theorem State.setRp2_ifr (s : State) (r : Rp2) (v : Word) : (s.setRp2 r v).ifr = s.ifr := by cases r <;> rfl
@[simp] theorem State.setRp2_dmaLatch (s : State) (r : Rp2) (v : Word) : (s.setRp2 r v).dmaLatch = s.dmaLatch := by cases r <;> rfl
@[simp] theorem State.setRp2_svbkLatch (s : State) (r : Rp2) (v : Word) : (s.setRp2 r v).svbkLatch = s.svbkLatch := by cases r <;> rfl
@[simp] theorem State.setRp2_eiPending (s : State) (r : Rp2) (v : Word) : (s.setRp2 r v).eiPending = s.eiPending := by cases r <;> rfl
@[simp] theorem State.setRp2_mem (s : State) (r : Rp2) (v : Word) : (s.setRp2 r v).mem = s.mem := by cases r <;> rfl
@[simp] theorem State.setRp2_status (s : State) (r : Rp2) (v : Word) : (s.setRp2 r v).status = s.status := by cases r <;> rfl
@[simp] theorem State.setRp2_report (s : State) (r : Rp2) (v : Word) : (s.setRp2 r v).report = s.report := by cases r <;> rfl
@[simp] theorem State.setRp2_platform (s : State) (r : Rp2) (v : Word) : (s.setRp2 r v).platform = s.platform := by cases r <;> rfl
@[simp] theorem State.setRp2_envIrq (s : State) (r : Rp2) (v : Word) : (s.setRp2 r v).envIrq = s.envIrq := by cases r <;> rfl
@[simp] theorem State.setRp2_calls (s : State) (r : Rp2) (v : Word) : (s.setRp2 r v).calls = s.calls := by cases r <;> rfl
@[simp] theorem State.setRp2_draws (s : State) (r : Rp2) (v : Word) : (s.setRp2 r v).draws = s.draws := by cases r <;> rfl

/-! ### `captureWrite` -/

@[simp] theorem State.captureWrite_a (s : State) (g : Region) (v : Byte) : (s.captureWrite g v).a = s.a := by cases g <;> rfl
@[simp] theorem State.captureWrite_f (s : State) (g : Region) (v : Byte) : (s.captureWrite g v).f = s.f := by cases g <;> rfl
@[simp] theorem State.captureWrite_b (s : State) (g : Region) (v : Byte) : (s.captureWrite g v).b = s.b := by cases g <;> rfl
@[simp] theorem State.captureWrite_c (s : State) (g : Region) (v : Byte) : (s.captureWrite g v).c = s.c := by cases g <;> rfl
@[simp] theorem State.captureWrite_d (s : State) (g : Region) (v : Byte) : (s.captureWrite g v).d = s.d := by cases g <;> rfl
@[simp] theorem State.captureWrite_e (s : State) (g : Region) (v : Byte) : (s.captureWrite g v).e = s.e := by cases g <;> rfl
@[simp] theorem State.captureWrite_h (s : State) (g : Region) (v : Byte) : (s.captureWrite g v).h = s.h := by cases g <;> rfl
@[simp] theorem State.captureWrite_l (s : State) (g : Region) (v : Byte) : (s.captureWrite g v).l = s.l := by cases g <;> rfl
@[simp] theorem State.captureWrite_sp (s : State) (g : Region) (v : Byte) : (s.captureWrite g v).sp = s.sp := by cases g <;> rfl
@[simp] theorem State.captureWrite_pc (s : State) (g : Region) (v : Byte) : (s.captureWrite g v).pc = s.pc := by cases g <;> rfl
@[simp] theorem State.captureWrite_halted (s : State) (g : Region) (v : Byte) : (s.captureWrite g v).halted = s.halted := by cases g <;> rfl
@[simp] theorem State.captureWrite_ime (s : State) (g : Region) (v : Byte) : (s.captureWrite g v).ime = s.ime := by cases g <;> rfl
@[simp] theorem State.captureWrite_ie (s : State) (g : Region) (v : Byte) : (s.captureWrite g v).ie = s.ie := by cases g <;> rfl
@[simp] theorem State.captureWrite_ifr (s : State) (g : Region) (v : Byte) : (s.captureWrite g v).ifr = s.ifr := by cases g <;> rfl
@[simp] theorem State.captureWrite_eiPending (s : State) (g : Region) (v : Byte) : (s.captureWrite g v).eiPending = s.eiPending := by cases g <;> rfl
@[simp] theorem State.captureWrite_mem (s : State) (g : Region) (v : Byte) : (s.captureWrite g v).mem = s.mem := by cases g <;> rfl
@[simp] theorem State.captureWrite_status (s : State) (g : Region) (v : Byte) : (s.captureWrite g v).status = s.status := by cases g <;> rfl
@[simp] theorem State.captureWrite_report (s : State) (g : Region) (v : Byte) : (s.captureWrite g v).report = s.report := by cases g <;> rfl
@[simp] theorem State.captureWrite_platform (s : State) (g : Region) (v : Byte) : (s.captureWrite g v).platform = s.platform := by cases g <;> rfl
@[simp] theorem State.captureWrite_envIrq (s : State) (g : Region) (v : Byte) : (s.captureWrite g v).envIrq = s.envIrq := by cases g <;> rfl
@[simp] theorem State.captureWrite_calls (s : State) (g : Region) (v : Byte) : (s.captureWrite g v).calls = s.calls := by cases g <;> rfl
@[simp] theorem State.captureWrite_draws (s : State) (g : Region) (v : Byte) : (s.captureWrite g v).draws = s.draws := by cases g <;> rfl

/-! ### Registers and pairs (10_state.md rules R13, R14) -/

theorem joinBytes_lo_hi (w : Word) : joinBytes (loByte w) (hiByte w) = w := by
  apply BitVec.eq_of_toNat_eq
  have := w.isLt
  simp only [joinBytes, loByte, hiByte, BitVec.toNat_append, BitVec.extractLsb'_toNat, Nat.shiftRight_eq_div_pow]
  rw [← Nat.shiftLeft_add_eq_or_of_lt (by omega), Nat.shiftLeft_eq]
  omega

@[simp] theorem loByte_joinBytes (lo hi : Byte) : loByte (joinBytes lo hi) = lo := by
  ext i h
  simp only [loByte, joinBytes, BitVec.getElem_extractLsb', Nat.zero_add, BitVec.getLsbD_append, h]
  simp [BitVec.getLsbD_eq_getElem, h]

@[simp] theorem hiByte_joinBytes (lo hi : Byte) : hiByte (joinBytes lo hi) = hi := by
  ext i h
  simp only [hiByte, joinBytes, BitVec.getElem_extractLsb', BitVec.getLsbD_append]
  simp [BitVec.getLsbD_eq_getElem, h]

/-- A register write is read back, and reaches no other register. -/
@[simp] theorem State.reg8_setReg8 (s : State) (r q : Reg8) (v : Byte) :
    (s.setReg8 r v).reg8 q = if q = r then v else s.reg8 q := by
  cases r <;> cases q <;> rfl

@[simp] theorem State.bc_setBc (s : State) (v : Word) : (s.setBc v).bc = v := joinBytes_lo_hi v
@[simp] theorem State.de_setDe (s : State) (v : Word) : (s.setDe v).de = v := joinBytes_lo_hi v
@[simp] theorem State.hl_setHl (s : State) (v : Word) : (s.setHl v).hl = v := joinBytes_lo_hi v

/-- A pair write is read back through the pair: pairs and registers are one storage (R13). -/
@[simp] theorem State.rp_setRp (s : State) (r : Rp) (v : Word) : (s.setRp r v).rp r = v := by
  cases r
  · exact State.bc_setBc s v
  · exact State.de_setDe s v
  · exact State.hl_setHl s v
  · rfl

/-- The two halves of a pair are its registers (R13). -/
theorem State.setHl_eq (s : State) (v : Word) : s.setHl v = (s.setReg8 .h (hiByte v)).setReg8 .l (loByte v) := rfl

end Sys2Proof.Machine
end

