-- ==== Sys2Proof/Laws/Ops.lean ====
section
/-! SUPPORT. What each shared operation of Ops.lean can do, said once: what it answers, what it keeps, when it raises. -/

namespace Sys2Proof.Machine

/-! ### Sequencing -/

@[simp] theorem andThen_next {α β : Type} (x : α) (k : α → Res β) : andThen (.next x) k = k x := rfl

@[simp] theorem andThen_fault {α β : Type} (e : Fault) (k : α → Res β) : andThen (.fault e) k = .fault e := rfl

@[simp] theorem andThen_refused {α β : Type} (e : Refusal) (k : α → Res β) : andThen (.refused e) k = .refused e := rfl

/-- Two lines answer a value exactly if both do. -/
theorem andThen_eq_next {α β : Type} {r : Res α} {k : α → Res β} {y : β} :
    andThen r k = .next y ↔ ∃ x, r = .next x ∧ k x = .next y := by
  cases r <;> simp

/-- Two lines raise exactly if the first does, or the second after it. -/
theorem andThen_eq_fault {α β : Type} {r : Res α} {k : α → Res β} {e : Fault} :
    andThen r k = .fault e ↔ r = .fault e ∨ ∃ x, r = .next x ∧ k x = .fault e := by
  cases r <;> simp

/-- Two lines are refused exactly if one of them is. -/
theorem andThen_eq_refused {α β : Type} {r : Res α} {k : α → Res β} {e : Refusal} :
    andThen r k = .refused e ↔ r = .refused e ∨ ∃ x, r = .next x ∧ k x = .refused e := by
  cases r <;> simp

theorem andThen_assoc {α β γ : Type} (r : Res α) (k : α → Res β) (l : β → Res γ) :
    andThen (andThen r k) l = andThen r fun x => andThen (k x) l := by
  cases r <;> rfl

/-! ### Raising -/

@[simp] theorem faultOf_left (c : Fatal) (s : State) : (faultOf c s).left = s := by cases c <;> rfl

@[simp] theorem faultOf_cause (c : Fatal) (s : State) : (faultOf c s).cause = c := by cases c <;> rfl

@[simp] theorem raise_ne_next {α : Type} (c : Fatal) (s : State) (x : α) : (raise c s : Res α) ≠ .next x := nofun

@[simp] theorem raise_ne_refused {α : Type} (c : Fatal) (s : State) (x : Refusal) : (raise c s : Res α) ≠ .refused x := nofun

/-- A raise leaves `status` faulted with its own cause and changes nothing else (R271). -/
theorem raise_stopsAt {α : Type} (c : Fatal) (s : State) : StopsAt s (raise c s : Res α) :=
  ⟨_, rfl, by simp⟩

theorem raise_eq_fault {α : Type} {c : Fatal} {s : State} {e : Fault} (h : (raise c s : Res α) = .fault e) :
    e.cause = c ∧ e.left = { s with status := .faulted c, report := .none } := by
  cases h
  simp

/-- A stop goes through the lines that follow it. -/
theorem StopsAt.andThen {α β : Type} {s : State} {r : Res α} (h : StopsAt s r) (k : α → Res β) : StopsAt s (andThen r k) := by
  obtain ⟨e, rfl, he⟩ := h
  exact ⟨e, rfl, he⟩

/-- The Fatal of a read goes through the lines that follow it. -/
theorem ReadStops.andThen {α β : Type} {s : State} {addr : Word} {r : Res α} (h : ReadStops s addr r) (k : α → Res β) :
    ReadStops s addr (andThen r k) := by
  obtain ⟨e, hm, rfl, he⟩ := h
  exact ⟨e, hm, rfl, he⟩

/-! ### Access -/

/-- Whether an address can be accessed depends on the platform alone. -/
theorem State.accessible_congr {s t : State} (h : t.platform = s.platform) (addr : Word) : t.accessible addr = s.accessible addr := by
  simp only [State.accessible, State.hasHandler, h]

/-- A read of an accessible address answers a byte. -/
theorem memRead_of_accessible {s : State} {addr : Word} (h : s.accessible addr = true) : ∃ v t, memRead addr s = .next (v, t) := by
  unfold State.accessible at h
  unfold memRead
  split at h <;> simp_all [handlerRead]

/-- A read of any other address raises before anything changes. -/
theorem memRead_of_not_accessible {s : State} {addr : Word} (h : s.accessible addr = false) : StopsAt s (memRead addr s) := by
  unfold State.accessible at h
  unfold memRead
  split at h <;> simp_all [handlerRead, raise_stopsAt]

/-- The read of any other address is its own Fatal, nothing changed. -/
theorem memRead_readStops {s : State} {addr : Word} (h : s.accessible addr = false) : ReadStops s addr (memRead addr s) := by
  obtain ⟨e, hm, he⟩ := memRead_of_not_accessible h
  exact ⟨e, hm, hm, he⟩

/-- A handler's read is recorded and changes nothing else (R45). -/
theorem handlerRead_next {g : Region} {addr : Word} {s t : State} {v : Byte} (h : handlerRead g addr s = .next (v, t)) :
    t = { s with calls := t.calls } := by
  unfold handlerRead at h
  split at h
  · cases h
    rfl
  · exact absurd h (raise_ne_next _ _ _)

/-- A handler's write is recorded and changes nothing else (R45). -/
theorem handlerWrite_next {g : Region} {addr : Word} {v : Byte} {s t : State} (h : handlerWrite g addr v s = .next t) :
    t = { s with calls := t.calls } := by
  unfold handlerWrite at h
  split at h
  · cases h
    rfl
  · exact absurd h (raise_ne_next _ _ _)

/-- A read changes at most the record of calls and draws. -/
theorem memRead_next {s t : State} {addr : Word} {v : Byte} (h : memRead addr s = .next (v, t)) :
    t = { s with calls := t.calls, draws := t.draws } := by
  unfold memRead at h
  split at h
  case h_2 => rw [handlerRead_next h]
  case h_7 => exact absurd h (raise_ne_next _ _ _)
  all_goals (cases h; rfl)

/-- A read answers a byte only where the address is accessible. -/
theorem accessible_of_memRead {s t : State} {addr : Word} {v : Byte} (h : memRead addr s = .next (v, t)) : s.accessible addr = true := by
  by_contra hn
  obtain ⟨e, he, -⟩ := memRead_of_not_accessible (by simpa using hn)
  rw [he] at h
  cases h

/-- A read keeps what every step keeps. -/
theorem memRead_wf {s t : State} {addr : Word} {v : Byte} (h : memRead addr s = .next (v, t)) (hs : s.Wf) : t.Wf := by
  rw [memRead_next h]
  exact ⟨hs.lowNibble, hs.eiPending, hs.memory, hs.cells, hs.image⟩

/-- A write of an accessible address goes through. -/
theorem memWrite_of_accessible {s : State} {addr : Word} (v : Byte) (h : s.accessible addr = true) : ∃ t, memWrite addr v s = .next t := by
  unfold State.accessible at h
  unfold memWrite
  split at h <;> simp_all [handlerWrite, State.hasHandler]

/-- A write of any other address raises. -/
theorem memWrite_of_not_accessible {s : State} {addr : Word} (v : Byte) (h : s.accessible addr = false) :
    ∃ e, memWrite addr v s = .fault e := by
  unfold State.accessible at h
  unfold memWrite
  split at h <;> simp_all [handlerWrite, State.hasHandler, raise]

/-- A write that raises has stored at most a latch (R47, R49, R277). -/
theorem memWrite_fault {s : State} {addr : Word} {v : Byte} {e : Fault} (h : memWrite addr v s = .fault e) :
    e.left = { s with
      dmaLatch := e.left.dmaLatch, svbkLatch := e.left.svbkLatch, status := .faulted e.cause, report := .none } := by
  unfold memWrite at h
  split at h
  case h_2 g _ =>
    unfold handlerWrite at h
    split at h
    · cases h
    · obtain ⟨hc, hl⟩ := raise_eq_fault h
      rw [hc, hl]
      cases g <;> rfl
  case h_7 =>
    obtain ⟨hc, hl⟩ := raise_eq_fault h
    rw [hc, hl]
  all_goals cases h

/-- A write changes no register: only memory, the interrupt registers, the latches and the record of calls. -/
theorem memWrite_next {s t : State} {addr : Word} {v : Byte} (h : memWrite addr v s = .next t) :
    t = { s with mem := t.mem, ie := t.ie, ifr := t.ifr, dmaLatch := t.dmaLatch, svbkLatch := t.svbkLatch, calls := t.calls } := by
  unfold memWrite at h
  split at h
  case h_2 g _ =>
    rw [handlerWrite_next h]
    cases g <;> rfl
  case h_7 => exact absurd h (raise_ne_next _ _ _)
  all_goals (cases h; rfl)

/-- A write keeps what every step keeps. -/
theorem memWrite_wf {s t : State} {addr : Word} {v : Byte} (h : memWrite addr v s = .next t) (hs : s.Wf) : t.Wf := by
  have hm : t.mem.wf ∧ ∀ c ∈ t.mem, isCell c.1 = true := by
    unfold memWrite at h
    split at h
    case h_1 k hk =>
      cases h
      exact ⟨Memory.wf_write hs.memory _ _, Memory.cells_write hs.cells (isCell_of_route hk) _⟩
    case h_2 g _ =>
      rw [handlerWrite_next h]
      simp only [State.captureWrite_mem]
      exact ⟨hs.memory, hs.cells⟩
    case h_7 => exact absurd h (raise_ne_next _ _ _)
    all_goals (cases h; exact ⟨hs.memory, hs.cells⟩)
  rw [memWrite_next h]
  exact ⟨hs.lowNibble, hs.eiPending, hm.1, hm.2, hs.image⟩

/-- The byte at an address whose content the core fixes is what a read answers, with nothing changed (R43 to R52, R60). -/
theorem memRead_coreByte {s : State} {addr : Word} {v : Byte} (h : s.coreByte addr = some v) : memRead addr s = .next (v, s) := by
  unfold State.coreByte at h
  unfold memRead
  split at h <;> simp_all

/-- A core-backed byte after a write to a RAM cell. -/
theorem State.coreByte_ram_write (s : State) (k : Nat) (v : Byte) (b : Word) (hb : route b ≠ .ram k) :
    ({ s with mem := Memory.write s.mem k v } : State).coreByte b = s.coreByte b := by
  unfold State.coreByte
  cases hr : route b with
  | ram j =>
    rw [hr] at hb
    have : j ≠ k := fun h => hb (h ▸ rfl)
    simp only [State.ram_write, this, if_false]
  | _ => rfl

/-! ### Fetch and stack -/

/-- A fetch moves `pc` by one and changes nothing else but the record of calls and draws (R61). -/
theorem fetch8_next {s t : State} {v : Byte} (h : fetch8 s = .next (v, t)) :
    t = { s with pc := s.pc + 1, calls := t.calls, draws := t.draws } := by
  obtain ⟨⟨w, u⟩, hr, hk⟩ := andThen_eq_next.1 h
  have hu := memRead_next hr
  simp only [Host.Outcome.next.injEq, Prod.mk.injEq] at hk
  obtain ⟨-, rfl⟩ := hk
  rw [hu]

/-- A 16-bit fetch moves `pc` by two. -/
theorem fetch16_next {s t : State} {v : Word} (h : fetch16 s = .next (v, t)) :
    t = { s with pc := s.pc + 2, calls := t.calls, draws := t.draws } := by
  obtain ⟨⟨lo, u⟩, hlo, h⟩ := andThen_eq_next.1 h
  obtain ⟨⟨hi, w⟩, hhi, h⟩ := andThen_eq_next.1 h
  have hu := fetch8_next hlo
  have hw := fetch8_next hhi
  simp only [Host.Outcome.next.injEq, Prod.mk.injEq] at h
  obtain ⟨-, rfl⟩ := h
  rw [hw, hu, BitVec.add_assoc]
  rfl

/-- `Push16` is the two writes of `Pushed` (R62). -/
theorem push16_next {s u : State} {v : Word} : push16 v s = .next u ↔ Pushed v s u := by
  have h2 : ∀ t : State, t.sp = s.sp - 1 → t.sp - 1 = s.sp - 2 := by
    intro t ht
    rw [ht, BitVec.sub_sub]
    rfl
  constructor
  · intro h
    obtain ⟨t, ht, hu⟩ := andThen_eq_next.1 h
    have hsp : t.sp = s.sp - 1 := by rw [memWrite_next ht]
    unfold pushByte at hu
    rw [h2 t hsp] at hu
    exact ⟨t, ht, hu⟩
  · rintro ⟨t, ht, hu⟩
    have hsp : t.sp = s.sp - 1 := by rw [memWrite_next ht]
    refine andThen_eq_next.2 ⟨t, ht, ?_⟩
    unfold pushByte
    rw [h2 t hsp]
    exact hu

/-- A push changes `SP` and what two byte writes can change. -/
theorem Pushed.frame {s u : State} {v : Word} (h : Pushed v s u) :
    u = { s with
      sp := s.sp - 2, mem := u.mem, ie := u.ie, ifr := u.ifr, dmaLatch := u.dmaLatch, svbkLatch := u.svbkLatch, calls := u.calls } := by
  obtain ⟨t, ht, hu⟩ := h
  have h1 := memWrite_next ht
  have h2 := memWrite_next hu
  rw [h2, h1]

/-- A push keeps what every step keeps. -/
theorem Pushed.wf {s u : State} {v : Word} (h : Pushed v s u) (hs : s.Wf) : u.Wf := by
  obtain ⟨t, ht, hu⟩ := h
  have h1 : t.Wf := memWrite_wf ht ⟨hs.lowNibble, hs.eiPending, hs.memory, hs.cells, hs.image⟩
  exact memWrite_wf hu ⟨h1.lowNibble, h1.eiPending, h1.memory, h1.cells, h1.image⟩

/-- A push goes through where both cells can be accessed. -/
theorem push16_of_canPush {s : State} (v : Word) (h : s.canPush = true) : ∃ u, push16 v s = .next u ∧ Pushed v s u := by
  simp only [State.canPush, Bool.and_eq_true] at h
  obtain ⟨t, ht⟩ := memWrite_of_accessible (s := { s with sp := s.sp - 1 }) (hiByte v) h.1
  have hp : t.platform = s.platform := by rw [memWrite_next ht]
  obtain ⟨u, hu⟩ := memWrite_of_accessible (s := { t with sp := s.sp - 2 }) (loByte v)
    ((State.accessible_congr hp _).trans h.2)
  exact ⟨u, push16_next.2 ⟨t, ht, hu⟩, t, ht, hu⟩

/-- A push whose first cell raises is that raise, `SP` moved by one (R62). -/
theorem push16_of_not_accessible {s : State} (v : Word) (h : s.accessible (s.sp - 1) = false) :
    ∃ e, memWrite (s.sp - 1) (hiByte v) { s with sp := s.sp - 1 } = .fault e ∧ push16 v s = .fault e := by
  obtain ⟨e, he⟩ := memWrite_of_not_accessible (s := { s with sp := s.sp - 1 }) (hiByte v) h
  exact ⟨e, he, andThen_eq_fault.2 (.inl he)⟩

/-- A push that does not go through is the Fatal of one of its writes (R62, R277). -/
theorem push16_stops {s : State} (v : Word) (h : s.canPush = false) : ∃ e, PushStops v s e ∧ push16 v s = .fault e := by
  cases h1 : s.accessible (s.sp - 1) with
  | false =>
    obtain ⟨e, he, hp⟩ := push16_of_not_accessible v h1
    exact ⟨e, ⟨fun _ => ⟨he, by rw [memWrite_fault he]⟩, fun hn => absurd (h1.symm.trans hn) nofun⟩, hp⟩
  | true =>
    have h2 : s.accessible (s.sp - 2) = false := by
      rw [State.canPush, h1, Bool.true_and] at h
      exact h
    obtain ⟨t, ht⟩ := memWrite_of_accessible (s := { s with sp := s.sp - 1 }) (hiByte v) h1
    have hp : t.platform = s.platform := by rw [memWrite_next ht]
    have hsp : t.sp - 1 = s.sp - 2 := by
      rw [memWrite_next ht, BitVec.sub_sub]
      rfl
    obtain ⟨e, he⟩ := memWrite_of_not_accessible (s := { t with sp := s.sp - 2 }) (loByte v) ((State.accessible_congr hp _).trans h2)
    refine ⟨e, ⟨fun hn => absurd (h1.symm.trans hn) nofun, fun _ => ⟨t, ht, he, by rw [memWrite_fault he]⟩⟩, ?_⟩
    refine andThen_eq_fault.2 (.inr ⟨t, ht, ?_⟩)
    unfold pushByte
    rw [hsp]
    exact he

/-- A push that raises has not moved `pc`. -/
theorem PushStops.pc {v : Word} {s : State} {e : Fault} (h : PushStops v s e) : e.left.pc = s.pc := by
  cases h1 : s.accessible (s.sp - 1) with
  | false => rw [memWrite_fault (h.1 h1).1]
  | true =>
    obtain ⟨t, ht, he, -⟩ := h.2 h1
    rw [memWrite_fault he, memWrite_next ht]

/-- `Pop16` is the two reads of `Popped` (R63). -/
theorem pop16_next {s u : State} {v : Word} : pop16 s = .next (v, u) ↔ ∃ lo hi, v = joinBytes lo hi ∧ Popped lo hi s u := by
  have h2 : s.sp + 1 + 1 = s.sp + 2 := by
    rw [BitVec.add_assoc]
    rfl
  constructor
  · intro h
    obtain ⟨⟨lo, t'⟩, hlo, h⟩ := andThen_eq_next.1 h
    obtain ⟨⟨hi, u'⟩, hhi, h⟩ := andThen_eq_next.1 h
    obtain ⟨⟨lo', t⟩, ht, h1⟩ := andThen_eq_next.1 hlo
    obtain ⟨⟨hi', w⟩, hw, h3⟩ := andThen_eq_next.1 hhi
    simp only [Host.Outcome.next.injEq, Prod.mk.injEq] at h h1 h3
    obtain ⟨rfl, rfl⟩ := h
    obtain ⟨rfl, rfl⟩ := h1
    obtain ⟨rfl, rfl⟩ := h3
    have htsp : t.sp = s.sp := by rw [memRead_next ht]
    rw [htsp] at hw
    have hwsp : w.sp = s.sp + 1 := by rw [memRead_next hw]
    refine ⟨_, _, rfl, t, w, ht, hw, ?_⟩
    rw [hwsp, h2]
  · rintro ⟨lo, hi, rfl, t, w, ht, hw, rfl⟩
    have htsp : t.sp = s.sp := by rw [memRead_next ht]
    have hwsp : w.sp = s.sp + 1 := by rw [memRead_next hw]
    simp only [pop16, popByte, ht, andThen_next, htsp, hw, hwsp, h2]

/-- A pop changes `SP` and the record of calls and draws. -/
theorem Popped.frame {s u : State} {lo hi : Byte} (h : Popped lo hi s u) :
    u = { s with sp := s.sp + 2, calls := u.calls, draws := u.draws } := by
  obtain ⟨t, w, ht, hw, rfl⟩ := h
  have h1 := memRead_next ht
  have h2 := memRead_next hw
  rw [h2, h1]

/-- A pop goes through where both cells can be accessed. -/
theorem pop16_of_canPop {s : State} (h : s.canPop = true) :
    ∃ lo hi u, pop16 s = .next (joinBytes lo hi, u) ∧ Popped lo hi s u := by
  simp only [State.canPop, Bool.and_eq_true] at h
  obtain ⟨lo, t, ht⟩ := memRead_of_accessible h.1
  have hp : t.platform = s.platform := by rw [memRead_next ht]
  obtain ⟨hi, w, hw⟩ := memRead_of_accessible (s := { t with sp := s.sp + 1 }) (addr := s.sp + 1)
    ((State.accessible_congr hp _).trans h.2)
  have hpop : Popped lo hi s { w with sp := s.sp + 2 } := ⟨t, w, ht, hw, rfl⟩
  exact ⟨lo, hi, _, pop16_next.2 ⟨lo, hi, rfl, hpop⟩, hpop⟩

/-- A pop that does not go through is the Fatal of one of its reads (R63, R277). -/
theorem pop16_stops {s : State} (h : s.canPop = false) : ∃ e, PopStops s e ∧ pop16 s = .fault e := by
  cases h1 : s.accessible s.sp with
  | false =>
    obtain ⟨e, he, hl⟩ := memRead_of_not_accessible h1
    exact ⟨e, ⟨fun _ => ⟨he, hl⟩, fun hn => absurd (h1.symm.trans hn) nofun⟩, by simp only [pop16, popByte, he, andThen_fault]⟩
  | true =>
    have h2 : s.accessible (s.sp + 1) = false := by
      rw [State.canPop, h1, Bool.true_and] at h
      exact h
    obtain ⟨lo, t, ht⟩ := memRead_of_accessible h1
    have hn := memRead_next ht
    have hp : t.platform = s.platform := by rw [hn]
    have hsp : t.sp = s.sp := by rw [hn]
    obtain ⟨e, he, hl⟩ := memRead_of_not_accessible (s := { t with sp := s.sp + 1 }) (addr := s.sp + 1)
      ((State.accessible_congr hp _).trans h2)
    refine ⟨e, ⟨fun hf => absurd (h1.symm.trans hf) nofun, fun _ => ⟨lo, t, ht, he, ?_⟩⟩, ?_⟩
    · rw [hl, hn]
    · simp only [pop16, popByte, ht, andThen_next, hsp, he, andThen_fault]

/-- A pop that raises has changed `SP` and the record of calls and draws alone. -/
theorem PopStops.frame {s : State} {e : Fault} (h : PopStops s e) :
    e.left = { s with
      sp := e.left.sp, calls := e.left.calls, draws := e.left.draws, status := .faulted e.cause, report := .none } := by
  cases h1 : s.accessible s.sp with
  | false => rw [(h.1 h1).2]
  | true =>
    obtain ⟨lo, t, -, -, hl⟩ := h.2 h1
    rw [hl]

/-! ### Interrupts -/

/-- A dispatch that answers a state has pushed `pc` and entered the vector (R282). -/
theorem dispatchInterrupt_next {n : Fin 5} {s u : State} (h : dispatchInterrupt n s = .next u) :
    ∃ t, Pushed s.pc { s with ime := false, eiPending := false, ifr := s.ifr &&& ~~~(1#8 <<< n.val) } t ∧
      u = { t with pc := vectorOf n, report := .interruptDispatch n } := by
  obtain ⟨t, ht, hu⟩ := andThen_eq_next.1 h
  exact ⟨t, push16_next.1 ht, by cases hu; rfl⟩

/-- The environment changes `IF` and its own schedule only (R74). -/
theorem State.raiseEnvironment_frame (s : State) :
    s.raiseEnvironment = { s with ifr := s.raiseEnvironment.ifr, envIrq := s.raiseEnvironment.envIrq } := by
  unfold State.raiseEnvironment
  split <;> rfl

/-- The least candidate is a candidate, and none is below it (R281). -/
theorem lowestPending_eq_some {p : Byte} {n : Fin 5} (h : lowestPending p = some n) :
    p.getLsbD n.val = true ∧ ∀ j < n.val, p.getLsbD j = false := by
  unfold lowestPending at h
  split_ifs at h <;> cases h <;> refine ⟨‹_›, fun j hj => ?_⟩
  · exact absurd hj (Nat.not_lt_zero _)
  · obtain rfl : j = 0 := by change j < 1 at hj; omega
    simp_all
  · obtain rfl | rfl : j = 0 ∨ j = 1 := by change j < 2 at hj; omega
    all_goals simp_all
  · obtain rfl | rfl | rfl : j = 0 ∨ j = 1 ∨ j = 2 := by change j < 3 at hj; omega
    all_goals simp_all
  · obtain rfl | rfl | rfl | rfl : j = 0 ∨ j = 1 ∨ j = 2 ∨ j = 3 := by change j < 4 at hj; omega
    all_goals simp_all

/-- A step that answers a state was taken by a running core (R277). -/
theorem step_next_running {s t : State} (h : step s = .next t) : s.status = .running ∧ cycle s.raiseEnvironment = .next t := by
  unfold step stepOf at h
  split at h
  · exact ⟨‹_›, h⟩
  · cases h

/-! ### Reset -/

/-- A reset event leaves a state that satisfies the invariant, from any state whose image is in canonical form. -/
theorem State.afterReset_wf {s : State} (h : Memory.wf s.platform.image) : s.afterReset.Wf where
  lowNibble := by simp [State.afterReset, State.reset]
  eiPending _ := rfl
  memory := List.Pairwise.nil
  cells _ hc := nomatch hc
  image := h

end Sys2Proof.Machine
end

