-- ==== Sys2Proof/Laws/Operands.lean ====
section
/-! SUPPORT. What each operand form and each shared shape of Operands.lean can do, said once, and the ways a step comes to a next
state. -/

namespace Sys2Proof.Machine

/-! ### Operands -/

/-- Reading an operand changes at most HL (the stepping forms) and the record of calls and draws (R98). -/
theorem readOperand8_next {x : Operand8} {s t : State} {v : Byte} (h : readOperand8 x s = .next (v, t)) :
    t = { s with h := t.h, l := t.l, calls := t.calls, draws := t.draws } := by
  cases x
  case reg r => cases h; rfl
  case imm w => cases h; rfl
  case indHlInc =>
    obtain ⟨⟨w, u⟩, hr, hk⟩ := andThen_eq_next.1 h
    have hu := memRead_next hr
    cases hk
    rw [hu]
    rfl
  case indHlDec =>
    obtain ⟨⟨w, u⟩, hr, hk⟩ := andThen_eq_next.1 h
    have hu := memRead_next hr
    cases hk
    rw [hu]
    rfl
  all_goals
    have ht := memRead_next h
    rw [ht]

/-- Reading an operand that no form steps leaves HL. -/
theorem readOperand8_next_hl {x : Operand8} (hx : x ≠ .indHlInc ∧ x ≠ .indHlDec) {s t : State} {v : Byte}
    (h : readOperand8 x s = .next (v, t)) : t = { s with calls := t.calls, draws := t.draws } := by
  cases x
  case reg r => cases h; rfl
  case imm w => cases h; rfl
  case indHlInc => exact absurd rfl hx.1
  case indHlDec => exact absurd rfl hx.2
  all_goals
    have ht := memRead_next h
    rw [ht]

/-- A register operand is read without an access. -/
@[simp] theorem readOperand8_reg (r : Reg8) (s : State) : readOperand8 (.reg r) s = .next (s.reg8 r, s) := rfl

/-- An immediate is read without an access: it has been fetched. -/
@[simp] theorem readOperand8_imm (v : Byte) (s : State) : readOperand8 (.imm v) s = .next (v, s) := rfl

/-- A register operand is written without an access. -/
@[simp] theorem writeOperand8_reg (r : Reg8) (v : Byte) (s : State) : writeOperand8 (.reg r) v s = .next (s.setReg8 r v) := rfl

/-- An operation on `A` answers what its operand's read answers, with `A` and `F` computed. -/
theorem alu8_next {k : Alu} {x : Operand8} {s u : State} (h : alu8 k x s = .next u) :
    ∃ v t, readOperand8 x s = .next (v, t) ∧ u = t.applyAlu k v := by
  obtain ⟨⟨v, t⟩, hr, hk⟩ := andThen_eq_next.1 h
  exact ⟨v, t, hr, by cases hk; rfl⟩

/-- A load answers what the write of its destination answers after the read of its source. -/
theorem load8_next {dst src : Operand8} {s u : State} (h : load8 dst src s = .next u) :
    ∃ v t, readOperand8 src s = .next (v, t) ∧ writeOperand8 dst v t = .next u := by
  obtain ⟨⟨v, t⟩, hr, hk⟩ := andThen_eq_next.1 h
  exact ⟨v, t, hr, hk⟩

/-- A read-modify-write answers a state exactly through one read, one write, and the flags. -/
theorem modify8_next {x : Operand8} {g : Byte → Flags → Byte × Flags} {s w : State} (h : modify8 x g s = .next w) :
    ∃ v t u, readOperand8 x s = .next (v, t) ∧ writeOperand8 x (g v t.flags).1 t = .next u ∧ w = u.setFlags (g v t.flags).2 := by
  obtain ⟨⟨v, t⟩, hr, hk⟩ := andThen_eq_next.1 h
  obtain ⟨u, hu, hk⟩ := andThen_eq_next.1 hk
  exact ⟨v, t, u, hr, hu, by cases hk; rfl⟩

/-- RES and SET answer a state exactly through one read and one write. -/
theorem modify8NoFlags_next {x : Operand8} {g : Byte → Byte} {s u : State} (h : modify8NoFlags x g s = .next u) :
    ∃ v t, readOperand8 x s = .next (v, t) ∧ writeOperand8 x (g v) t = .next u := by
  obtain ⟨⟨v, t⟩, hr, hk⟩ := andThen_eq_next.1 h
  exact ⟨v, t, hr, hk⟩

/-- Assigning the timing class changes the report alone. -/
theorem thenTiming_next {x : Timing} {r : Res State} {u : State} (h : thenTiming x r = .next u) :
    ∃ t, r = .next t ∧ u = t.setTiming x := by
  obtain ⟨t, ht, hk⟩ := andThen_eq_next.1 h
  exact ⟨t, ht, by cases hk; rfl⟩

/-- A conditional transfer, taken or not (R252). -/
theorem whenCond_next {cc : Cond} {f : State → Res State} {s u : State} (h : whenCond cc f s = .next u) :
    (s.cond cc = true ∧ ∃ t, f s = .next t ∧ u = t.setTiming .conditionalTaken) ∨ (s.cond cc = false ∧ u = s) := by
  unfold whenCond at h
  split at h
  · exact .inl ⟨‹_›, thenTiming_next h⟩
  · exact .inr ⟨Bool.eq_false_iff.2 ‹_›, by cases h; rfl⟩

/-- A call has pushed `pc` and moved it to the target (R246). -/
theorem callTo_next {a : Word} {s u : State} (h : callTo a s = .next u) : ∃ t, Pushed s.pc s t ∧ u = { t with pc := a } := by
  obtain ⟨t, ht, hk⟩ := andThen_eq_next.1 h
  exact ⟨t, push16_next.1 ht, by cases hk; rfl⟩

/-- A return has popped `pc` (R248). -/
theorem returnTo_next {s u : State} (h : returnTo s = .next u) :
    ∃ lo hi t, Popped lo hi s t ∧ u = { t with pc := joinBytes lo hi } := by
  obtain ⟨⟨v, t⟩, ht, hk⟩ := andThen_eq_next.1 h
  obtain ⟨lo, hi, rfl, hp⟩ := pop16_next.1 ht
  exact ⟨lo, hi, t, hp, by cases hk; rfl⟩

/-- RETI has popped `pc` and set IME (R250). -/
theorem returnFromInterrupt_next {s u : State} (h : returnFromInterrupt s = .next u) :
    ∃ lo hi t, Popped lo hi s t ∧ u = { t with pc := joinBytes lo hi, ime := true } := by
  obtain ⟨⟨v, t⟩, ht, hk⟩ := andThen_eq_next.1 h
  obtain ⟨lo, hi, rfl, hp⟩ := pop16_next.1 ht
  exact ⟨lo, hi, t, hp, by cases hk; rfl⟩

/-- A pop into a pair has popped and then written the pair (R235, R236). -/
theorem popPair_next {r : Rp2} {s u : State} (h : popPair r s = .next u) :
    ∃ lo hi t, Popped lo hi s t ∧ u = t.setRp2 r (joinBytes lo hi) := by
  obtain ⟨⟨v, t⟩, ht, hk⟩ := andThen_eq_next.1 h
  obtain ⟨lo, hi, rfl, hp⟩ := pop16_next.1 ht
  exact ⟨lo, hi, t, hp, by cases hk; rfl⟩

/-! ### Flags -/

/-- Every flag byte has a zero low nibble (R12). -/
@[simp] theorem Flags.toByte_low (fl : Flags) : fl.toByte &&& 0x0F = 0 := by
  obtain ⟨z, n, h, c⟩ := fl
  cases z <;> cases n <;> cases h <;> cases c <;> rfl

/-- What `set_flags` writes is what the conditions read back. -/
@[simp] theorem State.flags_setFlags (s : State) (fl : Flags) : (s.setFlags fl).flags = fl := by
  obtain ⟨z, n, h, c⟩ := fl
  cases z <;> cases n <;> cases h <;> cases c <;> simp [State.setFlags, State.flags, Flags.toByte]

/-- The flag byte by concatenation is the flag byte by weights. -/
theorem Flags.toByte_eq_flagByte (fl : Flags) : fl.toByte = flagByte fl.z fl.n fl.h fl.c := by
  obtain ⟨z, n, h, c⟩ := fl
  cases z <;> cases n <;> cases h <;> cases c <;> rfl

/-! ### The step -/

/-- The ways a cycle comes to a next state: a dispatch, an idle step, or one instruction (R270, R271). -/
theorem cycle_next {s t : State} (h : cycle s = .next t) :
    (∃ n, s.wake.toDispatch = some n ∧ dispatchInterrupt n s.wake = .next t) ∨
    (s.wake.toDispatch = none ∧ s.wake.halted = true ∧ t = { s.wake with report := .haltIdle }) ∨
    (s.wake.toDispatch = none ∧ s.wake.halted = false ∧
      ∃ i u, fetchInstr s.wake.applyPendingEi = .next (i, u) ∧ exec i (u.setTiming .default) = .next t) := by
  unfold cycle at h
  dsimp only at h
  split at h
  · exact .inl ⟨_, ‹_›, h⟩
  · split at h
    · exact .inr (.inl ⟨‹_›, ‹_›, by cases h; rfl⟩)
    · obtain ⟨⟨i, u⟩, hf, he⟩ := andThen_eq_next.1 h
      exact .inr (.inr ⟨‹_›, Bool.eq_false_iff.2 ‹_›, i, u, hf, he⟩)

/-- Fetching an instruction moves `pc` and changes nothing else but the record of calls and draws (R61, R90). -/
theorem fetchInstr_next {s t : State} {i : Instr} (h : fetchInstr s = .next (i, t)) :
    t = { s with pc := t.pc, calls := t.calls, draws := t.draws } := by
  obtain ⟨⟨op, u⟩, hu, h⟩ := andThen_eq_next.1 h
  have h1 := fetch8_next hu
  dsimp only at h
  split at h
  · cases h
    rw [h1]
  · obtain ⟨⟨d, w⟩, hw, h⟩ := andThen_eq_next.1 h
    have h2 := fetch8_next hw
    cases h
    rw [h2, h1]
  · obtain ⟨⟨d, w⟩, hw, h⟩ := andThen_eq_next.1 h
    have h2 := fetch16_next hw
    cases h
    rw [h2, h1]
  · obtain ⟨⟨d, w⟩, hw, h⟩ := andThen_eq_next.1 h
    have h2 := fetch8_next hw
    cases h
    rw [h2, h1]

end Sys2Proof.Machine
end

