-- ==== Sys2Proof/Tests/Slice0.lean ====
section
/-! SUPPORT. The model's own tests. Expected values are from spec/: the `bytes` column of opcode_table.json for decoding, the
examples of the rules of files 20 to 60 and the vectors of 95_test_vectors.md for steps. Then one witness per statement with
hypotheses: concrete data that meets them together. -/

namespace Sys2Proof.Tests

open Sys2Proof.Machine

/-! ### Well-formedness -/

/-- The one check: the prefix byte alone is no instruction (R100). -/
theorem test_wellFormed_refuses_prefix : Instr.prefixCb.wellFormed = false := by decide

theorem test_wellFormed_accepts_cb_row : Instr.rlcB.wellFormed = true := by decide

/-- The eleven unassigned bytes are rows, but not assigned ones (R93). -/
theorem test_assigned_refuses_unassigned_bytes :
    [Instr.illegalD3, .illegalDB, .illegalDD, .illegalE3, .illegalE4, .illegalEB, .illegalEC, .illegalED, .illegalF4, .illegalFC,
      .illegalFD].all (fun i => !i.assigned && i.wellFormed) = true := by decide

/-! ### Decoding: every row of the table, by the bytes the table gives it (immediates 0x12 and 0x1234) -/

theorem test_decode_op_00 :
    decode [0x00] = .ok .nop ∧ decode [0x01, 0x34, 0x12] = .ok (.ldBcD16 0x1234) ∧
    decode [0x02] = .ok .ldIndBcA ∧ decode [0x03] = .ok .incBc ∧
    decode [0x04] = .ok .incB ∧ decode [0x05] = .ok .decB ∧
    decode [0x06, 0x12] = .ok (.ldBD8 0x12) ∧ decode [0x07] = .ok .rlca ∧
    decode [0x08, 0x34, 0x12] = .ok (.ldIndA16Sp 0x1234) ∧ decode [0x09] = .ok .addHlBc ∧
    decode [0x0A] = .ok .ldAIndBc ∧ decode [0x0B] = .ok .decBc ∧
    decode [0x0C] = .ok .incC ∧ decode [0x0D] = .ok .decC ∧
    decode [0x0E, 0x12] = .ok (.ldCD8 0x12) ∧ decode [0x0F] = .ok .rrca ∧
    decode [0x10, 0x12] = .ok .stop ∧ decode [0x11, 0x34, 0x12] = .ok (.ldDeD16 0x1234) ∧
    decode [0x12] = .ok .ldIndDeA ∧ decode [0x13] = .ok .incDe ∧
    decode [0x14] = .ok .incD ∧ decode [0x15] = .ok .decD ∧
    decode [0x16, 0x12] = .ok (.ldDD8 0x12) ∧ decode [0x17] = .ok .rla ∧
    decode [0x18, 0x12] = .ok (.jrE8 0x12) ∧ decode [0x19] = .ok .addHlDe ∧
    decode [0x1A] = .ok .ldAIndDe ∧ decode [0x1B] = .ok .decDe ∧
    decode [0x1C] = .ok .incE ∧ decode [0x1D] = .ok .decE ∧
    decode [0x1E, 0x12] = .ok (.ldED8 0x12) ∧ decode [0x1F] = .ok .rra :=
  ⟨rfl, rfl, rfl, rfl, rfl, rfl, rfl, rfl, rfl, rfl, rfl, rfl, rfl, rfl, rfl, rfl, rfl, rfl, rfl, rfl, rfl, rfl, rfl, rfl, rfl, rfl, rfl, rfl, rfl, rfl, rfl, rfl⟩

theorem test_decode_op_20 :
    decode [0x20, 0x12] = .ok (.jrNzE8 0x12) ∧ decode [0x21, 0x34, 0x12] = .ok (.ldHlD16 0x1234) ∧
    decode [0x22] = .ok .ldIndHlIncA ∧ decode [0x23] = .ok .incHl ∧
    decode [0x24] = .ok .incH ∧ decode [0x25] = .ok .decH ∧
    decode [0x26, 0x12] = .ok (.ldHD8 0x12) ∧ decode [0x27] = .ok .daa ∧
    decode [0x28, 0x12] = .ok (.jrZE8 0x12) ∧ decode [0x29] = .ok .addHlHl ∧
    decode [0x2A] = .ok .ldAIndHlInc ∧ decode [0x2B] = .ok .decHl ∧
    decode [0x2C] = .ok .incL ∧ decode [0x2D] = .ok .decL ∧
    decode [0x2E, 0x12] = .ok (.ldLD8 0x12) ∧ decode [0x2F] = .ok .cpl ∧
    decode [0x30, 0x12] = .ok (.jrNcE8 0x12) ∧ decode [0x31, 0x34, 0x12] = .ok (.ldSpD16 0x1234) ∧
    decode [0x32] = .ok .ldIndHlDecA ∧ decode [0x33] = .ok .incSp ∧
    decode [0x34] = .ok .incIndHl ∧ decode [0x35] = .ok .decIndHl ∧
    decode [0x36, 0x12] = .ok (.ldIndHlD8 0x12) ∧ decode [0x37] = .ok .scf ∧
    decode [0x38, 0x12] = .ok (.jrCE8 0x12) ∧ decode [0x39] = .ok .addHlSp ∧
    decode [0x3A] = .ok .ldAIndHlDec ∧ decode [0x3B] = .ok .decSp ∧
    decode [0x3C] = .ok .incA ∧ decode [0x3D] = .ok .decA ∧
    decode [0x3E, 0x12] = .ok (.ldAD8 0x12) ∧ decode [0x3F] = .ok .ccf :=
  ⟨rfl, rfl, rfl, rfl, rfl, rfl, rfl, rfl, rfl, rfl, rfl, rfl, rfl, rfl, rfl, rfl, rfl, rfl, rfl, rfl, rfl, rfl, rfl, rfl, rfl, rfl, rfl, rfl, rfl, rfl, rfl, rfl⟩

theorem test_decode_op_40 :
    decode [0x40] = .ok .ldBB ∧ decode [0x41] = .ok .ldBC ∧
    decode [0x42] = .ok .ldBD ∧ decode [0x43] = .ok .ldBE ∧
    decode [0x44] = .ok .ldBH ∧ decode [0x45] = .ok .ldBL ∧
    decode [0x46] = .ok .ldBIndHl ∧ decode [0x47] = .ok .ldBA ∧
    decode [0x48] = .ok .ldCB ∧ decode [0x49] = .ok .ldCC ∧
    decode [0x4A] = .ok .ldCD ∧ decode [0x4B] = .ok .ldCE ∧
    decode [0x4C] = .ok .ldCH ∧ decode [0x4D] = .ok .ldCL ∧
    decode [0x4E] = .ok .ldCIndHl ∧ decode [0x4F] = .ok .ldCA ∧
    decode [0x50] = .ok .ldDB ∧ decode [0x51] = .ok .ldDC ∧
    decode [0x52] = .ok .ldDD ∧ decode [0x53] = .ok .ldDE ∧
    decode [0x54] = .ok .ldDH ∧ decode [0x55] = .ok .ldDL ∧
    decode [0x56] = .ok .ldDIndHl ∧ decode [0x57] = .ok .ldDA ∧
    decode [0x58] = .ok .ldEB ∧ decode [0x59] = .ok .ldEC ∧
    decode [0x5A] = .ok .ldED ∧ decode [0x5B] = .ok .ldEE ∧
    decode [0x5C] = .ok .ldEH ∧ decode [0x5D] = .ok .ldEL ∧
    decode [0x5E] = .ok .ldEIndHl ∧ decode [0x5F] = .ok .ldEA :=
  ⟨rfl, rfl, rfl, rfl, rfl, rfl, rfl, rfl, rfl, rfl, rfl, rfl, rfl, rfl, rfl, rfl, rfl, rfl, rfl, rfl, rfl, rfl, rfl, rfl, rfl, rfl, rfl, rfl, rfl, rfl, rfl, rfl⟩

theorem test_decode_op_60 :
    decode [0x60] = .ok .ldHB ∧ decode [0x61] = .ok .ldHC ∧
    decode [0x62] = .ok .ldHD ∧ decode [0x63] = .ok .ldHE ∧
    decode [0x64] = .ok .ldHH ∧ decode [0x65] = .ok .ldHL ∧
    decode [0x66] = .ok .ldHIndHl ∧ decode [0x67] = .ok .ldHA ∧
    decode [0x68] = .ok .ldLB ∧ decode [0x69] = .ok .ldLC ∧
    decode [0x6A] = .ok .ldLD ∧ decode [0x6B] = .ok .ldLE ∧
    decode [0x6C] = .ok .ldLH ∧ decode [0x6D] = .ok .ldLL ∧
    decode [0x6E] = .ok .ldLIndHl ∧ decode [0x6F] = .ok .ldLA ∧
    decode [0x70] = .ok .ldIndHlB ∧ decode [0x71] = .ok .ldIndHlC ∧
    decode [0x72] = .ok .ldIndHlD ∧ decode [0x73] = .ok .ldIndHlE ∧
    decode [0x74] = .ok .ldIndHlH ∧ decode [0x75] = .ok .ldIndHlL ∧
    decode [0x76] = .ok .halt ∧ decode [0x77] = .ok .ldIndHlA ∧
    decode [0x78] = .ok .ldAB ∧ decode [0x79] = .ok .ldAC ∧
    decode [0x7A] = .ok .ldAD ∧ decode [0x7B] = .ok .ldAE ∧
    decode [0x7C] = .ok .ldAH ∧ decode [0x7D] = .ok .ldAL ∧
    decode [0x7E] = .ok .ldAIndHl ∧ decode [0x7F] = .ok .ldAA :=
  ⟨rfl, rfl, rfl, rfl, rfl, rfl, rfl, rfl, rfl, rfl, rfl, rfl, rfl, rfl, rfl, rfl, rfl, rfl, rfl, rfl, rfl, rfl, rfl, rfl, rfl, rfl, rfl, rfl, rfl, rfl, rfl, rfl⟩

theorem test_decode_op_80 :
    decode [0x80] = .ok .addAB ∧ decode [0x81] = .ok .addAC ∧
    decode [0x82] = .ok .addAD ∧ decode [0x83] = .ok .addAE ∧
    decode [0x84] = .ok .addAH ∧ decode [0x85] = .ok .addAL ∧
    decode [0x86] = .ok .addAIndHl ∧ decode [0x87] = .ok .addAA ∧
    decode [0x88] = .ok .adcAB ∧ decode [0x89] = .ok .adcAC ∧
    decode [0x8A] = .ok .adcAD ∧ decode [0x8B] = .ok .adcAE ∧
    decode [0x8C] = .ok .adcAH ∧ decode [0x8D] = .ok .adcAL ∧
    decode [0x8E] = .ok .adcAIndHl ∧ decode [0x8F] = .ok .adcAA ∧
    decode [0x90] = .ok .subB ∧ decode [0x91] = .ok .subC ∧
    decode [0x92] = .ok .subD ∧ decode [0x93] = .ok .subE ∧
    decode [0x94] = .ok .subH ∧ decode [0x95] = .ok .subL ∧
    decode [0x96] = .ok .subIndHl ∧ decode [0x97] = .ok .subA ∧
    decode [0x98] = .ok .sbcAB ∧ decode [0x99] = .ok .sbcAC ∧
    decode [0x9A] = .ok .sbcAD ∧ decode [0x9B] = .ok .sbcAE ∧
    decode [0x9C] = .ok .sbcAH ∧ decode [0x9D] = .ok .sbcAL ∧
    decode [0x9E] = .ok .sbcAIndHl ∧ decode [0x9F] = .ok .sbcAA :=
  ⟨rfl, rfl, rfl, rfl, rfl, rfl, rfl, rfl, rfl, rfl, rfl, rfl, rfl, rfl, rfl, rfl, rfl, rfl, rfl, rfl, rfl, rfl, rfl, rfl, rfl, rfl, rfl, rfl, rfl, rfl, rfl, rfl⟩

theorem test_decode_op_A0 :
    decode [0xA0] = .ok .andB ∧ decode [0xA1] = .ok .andC ∧
    decode [0xA2] = .ok .andD ∧ decode [0xA3] = .ok .andE ∧
    decode [0xA4] = .ok .andH ∧ decode [0xA5] = .ok .andL ∧
    decode [0xA6] = .ok .andIndHl ∧ decode [0xA7] = .ok .andA ∧
    decode [0xA8] = .ok .xorB ∧ decode [0xA9] = .ok .xorC ∧
    decode [0xAA] = .ok .xorD ∧ decode [0xAB] = .ok .xorE ∧
    decode [0xAC] = .ok .xorH ∧ decode [0xAD] = .ok .xorL ∧
    decode [0xAE] = .ok .xorIndHl ∧ decode [0xAF] = .ok .xorA ∧
    decode [0xB0] = .ok .orB ∧ decode [0xB1] = .ok .orC ∧
    decode [0xB2] = .ok .orD ∧ decode [0xB3] = .ok .orE ∧
    decode [0xB4] = .ok .orH ∧ decode [0xB5] = .ok .orL ∧
    decode [0xB6] = .ok .orIndHl ∧ decode [0xB7] = .ok .orA ∧
    decode [0xB8] = .ok .cpB ∧ decode [0xB9] = .ok .cpC ∧
    decode [0xBA] = .ok .cpD ∧ decode [0xBB] = .ok .cpE ∧
    decode [0xBC] = .ok .cpH ∧ decode [0xBD] = .ok .cpL ∧
    decode [0xBE] = .ok .cpIndHl ∧ decode [0xBF] = .ok .cpA :=
  ⟨rfl, rfl, rfl, rfl, rfl, rfl, rfl, rfl, rfl, rfl, rfl, rfl, rfl, rfl, rfl, rfl, rfl, rfl, rfl, rfl, rfl, rfl, rfl, rfl, rfl, rfl, rfl, rfl, rfl, rfl, rfl, rfl⟩

theorem test_decode_op_C0 :
    decode [0xC0] = .ok .retNz ∧ decode [0xC1] = .ok .popBc ∧
    decode [0xC2, 0x34, 0x12] = .ok (.jpNzA16 0x1234) ∧ decode [0xC3, 0x34, 0x12] = .ok (.jpA16 0x1234) ∧
    decode [0xC4, 0x34, 0x12] = .ok (.callNzA16 0x1234) ∧ decode [0xC5] = .ok .pushBc ∧
    decode [0xC6, 0x12] = .ok (.addAD8 0x12) ∧ decode [0xC7] = .ok .rst00 ∧
    decode [0xC8] = .ok .retZ ∧ decode [0xC9] = .ok .ret ∧
    decode [0xCA, 0x34, 0x12] = .ok (.jpZA16 0x1234) ∧ decode [0xCB] = .ok .prefixCb ∧
    decode [0xCC, 0x34, 0x12] = .ok (.callZA16 0x1234) ∧ decode [0xCD, 0x34, 0x12] = .ok (.callA16 0x1234) ∧
    decode [0xCE, 0x12] = .ok (.adcAD8 0x12) ∧ decode [0xCF] = .ok .rst08 ∧
    decode [0xD0] = .ok .retNc ∧ decode [0xD1] = .ok .popDe ∧
    decode [0xD2, 0x34, 0x12] = .ok (.jpNcA16 0x1234) ∧ decode [0xD3] = .ok .illegalD3 ∧
    decode [0xD4, 0x34, 0x12] = .ok (.callNcA16 0x1234) ∧ decode [0xD5] = .ok .pushDe ∧
    decode [0xD6, 0x12] = .ok (.subD8 0x12) ∧ decode [0xD7] = .ok .rst10 ∧
    decode [0xD8] = .ok .retC ∧ decode [0xD9] = .ok .reti ∧
    decode [0xDA, 0x34, 0x12] = .ok (.jpCA16 0x1234) ∧ decode [0xDB] = .ok .illegalDB ∧
    decode [0xDC, 0x34, 0x12] = .ok (.callCA16 0x1234) ∧ decode [0xDD] = .ok .illegalDD ∧
    decode [0xDE, 0x12] = .ok (.sbcAD8 0x12) ∧ decode [0xDF] = .ok .rst18 :=
  ⟨rfl, rfl, rfl, rfl, rfl, rfl, rfl, rfl, rfl, rfl, rfl, rfl, rfl, rfl, rfl, rfl, rfl, rfl, rfl, rfl, rfl, rfl, rfl, rfl, rfl, rfl, rfl, rfl, rfl, rfl, rfl, rfl⟩

theorem test_decode_op_E0 :
    decode [0xE0, 0x12] = .ok (.ldhIndA8A 0x12) ∧ decode [0xE1] = .ok .popHl ∧
    decode [0xE2] = .ok .ldIndCA ∧ decode [0xE3] = .ok .illegalE3 ∧
    decode [0xE4] = .ok .illegalE4 ∧ decode [0xE5] = .ok .pushHl ∧
    decode [0xE6, 0x12] = .ok (.andD8 0x12) ∧ decode [0xE7] = .ok .rst20 ∧
    decode [0xE8, 0x12] = .ok (.addSpE8 0x12) ∧ decode [0xE9] = .ok .jpHl ∧
    decode [0xEA, 0x34, 0x12] = .ok (.ldIndA16A 0x1234) ∧ decode [0xEB] = .ok .illegalEB ∧
    decode [0xEC] = .ok .illegalEC ∧ decode [0xED] = .ok .illegalED ∧
    decode [0xEE, 0x12] = .ok (.xorD8 0x12) ∧ decode [0xEF] = .ok .rst28 ∧
    decode [0xF0, 0x12] = .ok (.ldhAIndA8 0x12) ∧ decode [0xF1] = .ok .popAf ∧
    decode [0xF2] = .ok .ldAIndC ∧ decode [0xF3] = .ok .di ∧
    decode [0xF4] = .ok .illegalF4 ∧ decode [0xF5] = .ok .pushAf ∧
    decode [0xF6, 0x12] = .ok (.orD8 0x12) ∧ decode [0xF7] = .ok .rst30 ∧
    decode [0xF8, 0x12] = .ok (.ldHlSpE8 0x12) ∧ decode [0xF9] = .ok .ldSpHl ∧
    decode [0xFA, 0x34, 0x12] = .ok (.ldAIndA16 0x1234) ∧ decode [0xFB] = .ok .ei ∧
    decode [0xFC] = .ok .illegalFC ∧ decode [0xFD] = .ok .illegalFD ∧
    decode [0xFE, 0x12] = .ok (.cpD8 0x12) ∧ decode [0xFF] = .ok .rst38 :=
  ⟨rfl, rfl, rfl, rfl, rfl, rfl, rfl, rfl, rfl, rfl, rfl, rfl, rfl, rfl, rfl, rfl, rfl, rfl, rfl, rfl, rfl, rfl, rfl, rfl, rfl, rfl, rfl, rfl, rfl, rfl, rfl, rfl⟩

theorem test_decode_cb_00 :
    decode [0xCB, 0x00] = .ok .rlcB ∧ decode [0xCB, 0x01] = .ok .rlcC ∧
    decode [0xCB, 0x02] = .ok .rlcD ∧ decode [0xCB, 0x03] = .ok .rlcE ∧
    decode [0xCB, 0x04] = .ok .rlcH ∧ decode [0xCB, 0x05] = .ok .rlcL ∧
    decode [0xCB, 0x06] = .ok .rlcIndHl ∧ decode [0xCB, 0x07] = .ok .rlcA ∧
    decode [0xCB, 0x08] = .ok .rrcB ∧ decode [0xCB, 0x09] = .ok .rrcC ∧
    decode [0xCB, 0x0A] = .ok .rrcD ∧ decode [0xCB, 0x0B] = .ok .rrcE ∧
    decode [0xCB, 0x0C] = .ok .rrcH ∧ decode [0xCB, 0x0D] = .ok .rrcL ∧
    decode [0xCB, 0x0E] = .ok .rrcIndHl ∧ decode [0xCB, 0x0F] = .ok .rrcA ∧
    decode [0xCB, 0x10] = .ok .rlB ∧ decode [0xCB, 0x11] = .ok .rlC ∧
    decode [0xCB, 0x12] = .ok .rlD ∧ decode [0xCB, 0x13] = .ok .rlE ∧
    decode [0xCB, 0x14] = .ok .rlH ∧ decode [0xCB, 0x15] = .ok .rlL ∧
    decode [0xCB, 0x16] = .ok .rlIndHl ∧ decode [0xCB, 0x17] = .ok .rlA ∧
    decode [0xCB, 0x18] = .ok .rrB ∧ decode [0xCB, 0x19] = .ok .rrC ∧
    decode [0xCB, 0x1A] = .ok .rrD ∧ decode [0xCB, 0x1B] = .ok .rrE ∧
    decode [0xCB, 0x1C] = .ok .rrH ∧ decode [0xCB, 0x1D] = .ok .rrL ∧
    decode [0xCB, 0x1E] = .ok .rrIndHl ∧ decode [0xCB, 0x1F] = .ok .rrA :=
  ⟨rfl, rfl, rfl, rfl, rfl, rfl, rfl, rfl, rfl, rfl, rfl, rfl, rfl, rfl, rfl, rfl, rfl, rfl, rfl, rfl, rfl, rfl, rfl, rfl, rfl, rfl, rfl, rfl, rfl, rfl, rfl, rfl⟩

theorem test_decode_cb_20 :
    decode [0xCB, 0x20] = .ok .slaB ∧ decode [0xCB, 0x21] = .ok .slaC ∧
    decode [0xCB, 0x22] = .ok .slaD ∧ decode [0xCB, 0x23] = .ok .slaE ∧
    decode [0xCB, 0x24] = .ok .slaH ∧ decode [0xCB, 0x25] = .ok .slaL ∧
    decode [0xCB, 0x26] = .ok .slaIndHl ∧ decode [0xCB, 0x27] = .ok .slaA ∧
    decode [0xCB, 0x28] = .ok .sraB ∧ decode [0xCB, 0x29] = .ok .sraC ∧
    decode [0xCB, 0x2A] = .ok .sraD ∧ decode [0xCB, 0x2B] = .ok .sraE ∧
    decode [0xCB, 0x2C] = .ok .sraH ∧ decode [0xCB, 0x2D] = .ok .sraL ∧
    decode [0xCB, 0x2E] = .ok .sraIndHl ∧ decode [0xCB, 0x2F] = .ok .sraA ∧
    decode [0xCB, 0x30] = .ok .swapB ∧ decode [0xCB, 0x31] = .ok .swapC ∧
    decode [0xCB, 0x32] = .ok .swapD ∧ decode [0xCB, 0x33] = .ok .swapE ∧
    decode [0xCB, 0x34] = .ok .swapH ∧ decode [0xCB, 0x35] = .ok .swapL ∧
    decode [0xCB, 0x36] = .ok .swapIndHl ∧ decode [0xCB, 0x37] = .ok .swapA ∧
    decode [0xCB, 0x38] = .ok .srlB ∧ decode [0xCB, 0x39] = .ok .srlC ∧
    decode [0xCB, 0x3A] = .ok .srlD ∧ decode [0xCB, 0x3B] = .ok .srlE ∧
    decode [0xCB, 0x3C] = .ok .srlH ∧ decode [0xCB, 0x3D] = .ok .srlL ∧
    decode [0xCB, 0x3E] = .ok .srlIndHl ∧ decode [0xCB, 0x3F] = .ok .srlA :=
  ⟨rfl, rfl, rfl, rfl, rfl, rfl, rfl, rfl, rfl, rfl, rfl, rfl, rfl, rfl, rfl, rfl, rfl, rfl, rfl, rfl, rfl, rfl, rfl, rfl, rfl, rfl, rfl, rfl, rfl, rfl, rfl, rfl⟩

theorem test_decode_cb_40 :
    decode [0xCB, 0x40] = .ok .bit0B ∧ decode [0xCB, 0x41] = .ok .bit0C ∧
    decode [0xCB, 0x42] = .ok .bit0D ∧ decode [0xCB, 0x43] = .ok .bit0E ∧
    decode [0xCB, 0x44] = .ok .bit0H ∧ decode [0xCB, 0x45] = .ok .bit0L ∧
    decode [0xCB, 0x46] = .ok .bit0IndHl ∧ decode [0xCB, 0x47] = .ok .bit0A ∧
    decode [0xCB, 0x48] = .ok .bit1B ∧ decode [0xCB, 0x49] = .ok .bit1C ∧
    decode [0xCB, 0x4A] = .ok .bit1D ∧ decode [0xCB, 0x4B] = .ok .bit1E ∧
    decode [0xCB, 0x4C] = .ok .bit1H ∧ decode [0xCB, 0x4D] = .ok .bit1L ∧
    decode [0xCB, 0x4E] = .ok .bit1IndHl ∧ decode [0xCB, 0x4F] = .ok .bit1A ∧
    decode [0xCB, 0x50] = .ok .bit2B ∧ decode [0xCB, 0x51] = .ok .bit2C ∧
    decode [0xCB, 0x52] = .ok .bit2D ∧ decode [0xCB, 0x53] = .ok .bit2E ∧
    decode [0xCB, 0x54] = .ok .bit2H ∧ decode [0xCB, 0x55] = .ok .bit2L ∧
    decode [0xCB, 0x56] = .ok .bit2IndHl ∧ decode [0xCB, 0x57] = .ok .bit2A ∧
    decode [0xCB, 0x58] = .ok .bit3B ∧ decode [0xCB, 0x59] = .ok .bit3C ∧
    decode [0xCB, 0x5A] = .ok .bit3D ∧ decode [0xCB, 0x5B] = .ok .bit3E ∧
    decode [0xCB, 0x5C] = .ok .bit3H ∧ decode [0xCB, 0x5D] = .ok .bit3L ∧
    decode [0xCB, 0x5E] = .ok .bit3IndHl ∧ decode [0xCB, 0x5F] = .ok .bit3A :=
  ⟨rfl, rfl, rfl, rfl, rfl, rfl, rfl, rfl, rfl, rfl, rfl, rfl, rfl, rfl, rfl, rfl, rfl, rfl, rfl, rfl, rfl, rfl, rfl, rfl, rfl, rfl, rfl, rfl, rfl, rfl, rfl, rfl⟩

theorem test_decode_cb_60 :
    decode [0xCB, 0x60] = .ok .bit4B ∧ decode [0xCB, 0x61] = .ok .bit4C ∧
    decode [0xCB, 0x62] = .ok .bit4D ∧ decode [0xCB, 0x63] = .ok .bit4E ∧
    decode [0xCB, 0x64] = .ok .bit4H ∧ decode [0xCB, 0x65] = .ok .bit4L ∧
    decode [0xCB, 0x66] = .ok .bit4IndHl ∧ decode [0xCB, 0x67] = .ok .bit4A ∧
    decode [0xCB, 0x68] = .ok .bit5B ∧ decode [0xCB, 0x69] = .ok .bit5C ∧
    decode [0xCB, 0x6A] = .ok .bit5D ∧ decode [0xCB, 0x6B] = .ok .bit5E ∧
    decode [0xCB, 0x6C] = .ok .bit5H ∧ decode [0xCB, 0x6D] = .ok .bit5L ∧
    decode [0xCB, 0x6E] = .ok .bit5IndHl ∧ decode [0xCB, 0x6F] = .ok .bit5A ∧
    decode [0xCB, 0x70] = .ok .bit6B ∧ decode [0xCB, 0x71] = .ok .bit6C ∧
    decode [0xCB, 0x72] = .ok .bit6D ∧ decode [0xCB, 0x73] = .ok .bit6E ∧
    decode [0xCB, 0x74] = .ok .bit6H ∧ decode [0xCB, 0x75] = .ok .bit6L ∧
    decode [0xCB, 0x76] = .ok .bit6IndHl ∧ decode [0xCB, 0x77] = .ok .bit6A ∧
    decode [0xCB, 0x78] = .ok .bit7B ∧ decode [0xCB, 0x79] = .ok .bit7C ∧
    decode [0xCB, 0x7A] = .ok .bit7D ∧ decode [0xCB, 0x7B] = .ok .bit7E ∧
    decode [0xCB, 0x7C] = .ok .bit7H ∧ decode [0xCB, 0x7D] = .ok .bit7L ∧
    decode [0xCB, 0x7E] = .ok .bit7IndHl ∧ decode [0xCB, 0x7F] = .ok .bit7A :=
  ⟨rfl, rfl, rfl, rfl, rfl, rfl, rfl, rfl, rfl, rfl, rfl, rfl, rfl, rfl, rfl, rfl, rfl, rfl, rfl, rfl, rfl, rfl, rfl, rfl, rfl, rfl, rfl, rfl, rfl, rfl, rfl, rfl⟩

theorem test_decode_cb_80 :
    decode [0xCB, 0x80] = .ok .res0B ∧ decode [0xCB, 0x81] = .ok .res0C ∧
    decode [0xCB, 0x82] = .ok .res0D ∧ decode [0xCB, 0x83] = .ok .res0E ∧
    decode [0xCB, 0x84] = .ok .res0H ∧ decode [0xCB, 0x85] = .ok .res0L ∧
    decode [0xCB, 0x86] = .ok .res0IndHl ∧ decode [0xCB, 0x87] = .ok .res0A ∧
    decode [0xCB, 0x88] = .ok .res1B ∧ decode [0xCB, 0x89] = .ok .res1C ∧
    decode [0xCB, 0x8A] = .ok .res1D ∧ decode [0xCB, 0x8B] = .ok .res1E ∧
    decode [0xCB, 0x8C] = .ok .res1H ∧ decode [0xCB, 0x8D] = .ok .res1L ∧
    decode [0xCB, 0x8E] = .ok .res1IndHl ∧ decode [0xCB, 0x8F] = .ok .res1A ∧
    decode [0xCB, 0x90] = .ok .res2B ∧ decode [0xCB, 0x91] = .ok .res2C ∧
    decode [0xCB, 0x92] = .ok .res2D ∧ decode [0xCB, 0x93] = .ok .res2E ∧
    decode [0xCB, 0x94] = .ok .res2H ∧ decode [0xCB, 0x95] = .ok .res2L ∧
    decode [0xCB, 0x96] = .ok .res2IndHl ∧ decode [0xCB, 0x97] = .ok .res2A ∧
    decode [0xCB, 0x98] = .ok .res3B ∧ decode [0xCB, 0x99] = .ok .res3C ∧
    decode [0xCB, 0x9A] = .ok .res3D ∧ decode [0xCB, 0x9B] = .ok .res3E ∧
    decode [0xCB, 0x9C] = .ok .res3H ∧ decode [0xCB, 0x9D] = .ok .res3L ∧
    decode [0xCB, 0x9E] = .ok .res3IndHl ∧ decode [0xCB, 0x9F] = .ok .res3A :=
  ⟨rfl, rfl, rfl, rfl, rfl, rfl, rfl, rfl, rfl, rfl, rfl, rfl, rfl, rfl, rfl, rfl, rfl, rfl, rfl, rfl, rfl, rfl, rfl, rfl, rfl, rfl, rfl, rfl, rfl, rfl, rfl, rfl⟩

theorem test_decode_cb_A0 :
    decode [0xCB, 0xA0] = .ok .res4B ∧ decode [0xCB, 0xA1] = .ok .res4C ∧
    decode [0xCB, 0xA2] = .ok .res4D ∧ decode [0xCB, 0xA3] = .ok .res4E ∧
    decode [0xCB, 0xA4] = .ok .res4H ∧ decode [0xCB, 0xA5] = .ok .res4L ∧
    decode [0xCB, 0xA6] = .ok .res4IndHl ∧ decode [0xCB, 0xA7] = .ok .res4A ∧
    decode [0xCB, 0xA8] = .ok .res5B ∧ decode [0xCB, 0xA9] = .ok .res5C ∧
    decode [0xCB, 0xAA] = .ok .res5D ∧ decode [0xCB, 0xAB] = .ok .res5E ∧
    decode [0xCB, 0xAC] = .ok .res5H ∧ decode [0xCB, 0xAD] = .ok .res5L ∧
    decode [0xCB, 0xAE] = .ok .res5IndHl ∧ decode [0xCB, 0xAF] = .ok .res5A ∧
    decode [0xCB, 0xB0] = .ok .res6B ∧ decode [0xCB, 0xB1] = .ok .res6C ∧
    decode [0xCB, 0xB2] = .ok .res6D ∧ decode [0xCB, 0xB3] = .ok .res6E ∧
    decode [0xCB, 0xB4] = .ok .res6H ∧ decode [0xCB, 0xB5] = .ok .res6L ∧
    decode [0xCB, 0xB6] = .ok .res6IndHl ∧ decode [0xCB, 0xB7] = .ok .res6A ∧
    decode [0xCB, 0xB8] = .ok .res7B ∧ decode [0xCB, 0xB9] = .ok .res7C ∧
    decode [0xCB, 0xBA] = .ok .res7D ∧ decode [0xCB, 0xBB] = .ok .res7E ∧
    decode [0xCB, 0xBC] = .ok .res7H ∧ decode [0xCB, 0xBD] = .ok .res7L ∧
    decode [0xCB, 0xBE] = .ok .res7IndHl ∧ decode [0xCB, 0xBF] = .ok .res7A :=
  ⟨rfl, rfl, rfl, rfl, rfl, rfl, rfl, rfl, rfl, rfl, rfl, rfl, rfl, rfl, rfl, rfl, rfl, rfl, rfl, rfl, rfl, rfl, rfl, rfl, rfl, rfl, rfl, rfl, rfl, rfl, rfl, rfl⟩

theorem test_decode_cb_C0 :
    decode [0xCB, 0xC0] = .ok .set0B ∧ decode [0xCB, 0xC1] = .ok .set0C ∧
    decode [0xCB, 0xC2] = .ok .set0D ∧ decode [0xCB, 0xC3] = .ok .set0E ∧
    decode [0xCB, 0xC4] = .ok .set0H ∧ decode [0xCB, 0xC5] = .ok .set0L ∧
    decode [0xCB, 0xC6] = .ok .set0IndHl ∧ decode [0xCB, 0xC7] = .ok .set0A ∧
    decode [0xCB, 0xC8] = .ok .set1B ∧ decode [0xCB, 0xC9] = .ok .set1C ∧
    decode [0xCB, 0xCA] = .ok .set1D ∧ decode [0xCB, 0xCB] = .ok .set1E ∧
    decode [0xCB, 0xCC] = .ok .set1H ∧ decode [0xCB, 0xCD] = .ok .set1L ∧
    decode [0xCB, 0xCE] = .ok .set1IndHl ∧ decode [0xCB, 0xCF] = .ok .set1A ∧
    decode [0xCB, 0xD0] = .ok .set2B ∧ decode [0xCB, 0xD1] = .ok .set2C ∧
    decode [0xCB, 0xD2] = .ok .set2D ∧ decode [0xCB, 0xD3] = .ok .set2E ∧
    decode [0xCB, 0xD4] = .ok .set2H ∧ decode [0xCB, 0xD5] = .ok .set2L ∧
    decode [0xCB, 0xD6] = .ok .set2IndHl ∧ decode [0xCB, 0xD7] = .ok .set2A ∧
    decode [0xCB, 0xD8] = .ok .set3B ∧ decode [0xCB, 0xD9] = .ok .set3C ∧
    decode [0xCB, 0xDA] = .ok .set3D ∧ decode [0xCB, 0xDB] = .ok .set3E ∧
    decode [0xCB, 0xDC] = .ok .set3H ∧ decode [0xCB, 0xDD] = .ok .set3L ∧
    decode [0xCB, 0xDE] = .ok .set3IndHl ∧ decode [0xCB, 0xDF] = .ok .set3A :=
  ⟨rfl, rfl, rfl, rfl, rfl, rfl, rfl, rfl, rfl, rfl, rfl, rfl, rfl, rfl, rfl, rfl, rfl, rfl, rfl, rfl, rfl, rfl, rfl, rfl, rfl, rfl, rfl, rfl, rfl, rfl, rfl, rfl⟩

theorem test_decode_cb_E0 :
    decode [0xCB, 0xE0] = .ok .set4B ∧ decode [0xCB, 0xE1] = .ok .set4C ∧
    decode [0xCB, 0xE2] = .ok .set4D ∧ decode [0xCB, 0xE3] = .ok .set4E ∧
    decode [0xCB, 0xE4] = .ok .set4H ∧ decode [0xCB, 0xE5] = .ok .set4L ∧
    decode [0xCB, 0xE6] = .ok .set4IndHl ∧ decode [0xCB, 0xE7] = .ok .set4A ∧
    decode [0xCB, 0xE8] = .ok .set5B ∧ decode [0xCB, 0xE9] = .ok .set5C ∧
    decode [0xCB, 0xEA] = .ok .set5D ∧ decode [0xCB, 0xEB] = .ok .set5E ∧
    decode [0xCB, 0xEC] = .ok .set5H ∧ decode [0xCB, 0xED] = .ok .set5L ∧
    decode [0xCB, 0xEE] = .ok .set5IndHl ∧ decode [0xCB, 0xEF] = .ok .set5A ∧
    decode [0xCB, 0xF0] = .ok .set6B ∧ decode [0xCB, 0xF1] = .ok .set6C ∧
    decode [0xCB, 0xF2] = .ok .set6D ∧ decode [0xCB, 0xF3] = .ok .set6E ∧
    decode [0xCB, 0xF4] = .ok .set6H ∧ decode [0xCB, 0xF5] = .ok .set6L ∧
    decode [0xCB, 0xF6] = .ok .set6IndHl ∧ decode [0xCB, 0xF7] = .ok .set6A ∧
    decode [0xCB, 0xF8] = .ok .set7B ∧ decode [0xCB, 0xF9] = .ok .set7C ∧
    decode [0xCB, 0xFA] = .ok .set7D ∧ decode [0xCB, 0xFB] = .ok .set7E ∧
    decode [0xCB, 0xFC] = .ok .set7H ∧ decode [0xCB, 0xFD] = .ok .set7L ∧
    decode [0xCB, 0xFE] = .ok .set7IndHl ∧ decode [0xCB, 0xFF] = .ok .set7A :=
  ⟨rfl, rfl, rfl, rfl, rfl, rfl, rfl, rfl, rfl, rfl, rfl, rfl, rfl, rfl, rfl, rfl, rfl, rfl, rfl, rfl, rfl, rfl, rfl, rfl, rfl, rfl, rfl, rfl, rfl, rfl, rfl, rfl⟩

/-! ### One step -/

/-- The state of the spec's vectors: reset, but the program in working RAM, the stack in high RAM, HL in working RAM. -/
def base : State := { State.reset with pc := 0xC000, h := 0xC1, l := 0x00 }

/-- The same on a platform with `EI_DELAYED = true`. -/
def delayed : State := { base with platform := { Platform.default with eiDelayed := true } }

/-- One step of the bytes placed at `pc`, read through `view`. -/
def ran {α : Type} (s : State) (bytes : List Byte) (view : State → α) : Option α :=
  match step (s.placeBytes s.pc bytes) with
  | .next t => some (view t)
  | _ => none

/-- One step of the bytes placed at `pc` that ends in a Fatal: its cause, and a view of what is left. -/
def stopped {α : Type} (s : State) (bytes : List Byte) (view : State → α) : Option (Fatal × α) :=
  match step (s.placeBytes s.pc bytes) with
  | .fault e => some (e.cause, view e.left)
  | _ => none

/-- R112. -/
theorem test_add_register_wraps :
    ran ({ base with a := 0x3A, b := 0xC6 }) [0x80] (fun t => (t.a, t.f)) = some (0x00, 0xB0) := by decide

/-- R113. -/
theorem test_add_indirect_half_carry :
    ran ({ base with a := 0x0F }.placeByte 0xC100 0x01) [0x86] (fun t => (t.a, t.f)) = some (0x10, 0x20) := by decide

/-- R114. -/
theorem test_add_immediate_wraps :
    ran ({ base with a := 0xFF }) [0xC6, 0x01] (fun t => (t.a, t.f)) = some (0x00, 0xB0) := by decide

/-- R115. -/
theorem test_adc_register_carry_in :
    ran ({ base with a := 0x80, b := 0x80, f := 0x10 }) [0x88] (fun t => (t.a, t.f)) = some (0x01, 0x10) := by decide

/-- R117. -/
theorem test_adc_immediate_carry_in_alone :
    ran ({ base with a := 0x00, f := 0x10 }) [0xCE, 0xFF] (fun t => (t.a, t.f)) = some (0x00, 0xB0) := by decide

/-- R118. -/
theorem test_sub_register_borrow :
    ran ({ base with a := 0x3A, b := 0xC6 }) [0x90] (fun t => (t.a, t.f)) = some (0x74, 0x50) := by decide

/-- R120. -/
theorem test_sub_immediate_both_borrows :
    ran ({ base with a := 0x00 }) [0xD6, 0x01] (fun t => (t.a, t.f)) = some (0xFF, 0x70) := by decide

/-- R121. -/
theorem test_sbc_register_equal_with_carry :
    ran ({ base with a := 0x3C, b := 0x3C, f := 0x10 }) [0x98] (fun t => (t.a, t.f)) = some (0xFF, 0x70) := by decide

/-- R123. -/
theorem test_sbc_immediate_full_wrap :
    ran ({ base with a := 0x00, f := 0x10 }) [0xDE, 0xFF] (fun t => (t.a, t.f)) = some (0x00, 0xF0) := by decide

/-- R124. -/
theorem test_cp_register_keeps_a :
    ran ({ base with a := 0x3A, b := 0xC6 }) [0xB8] (fun t => (t.a, t.f)) = some (0x3A, 0x50) := by decide

/-- R126. -/
theorem test_cp_immediate_equal :
    ran ({ base with a := 0x3C }) [0xFE, 0x3C] (fun t => (t.a, t.f)) = some (0x3C, 0xC0) := by decide

/-- R127. -/
theorem test_inc_register_keeps_carry :
    ran ({ base with b := 0x0F, f := 0x10 }) [0x04] (fun t => (t.b, t.f)) = some (0x10, 0x30) := by decide

/-- R128. -/
theorem test_inc_indirect_wraps :
    ran ({ base with f := 0x00 }.placeByte 0xC100 0xFF) [0x34] (fun t => (t.coreByte 0xC100, t.f)) = some (some 0x00, 0xA0) := by decide

/-- R129. -/
theorem test_dec_register_half_borrow :
    ran ({ base with b := 0x10, f := 0x00 }) [0x05] (fun t => (t.b, t.f)) = some (0x0F, 0x60) := by decide

/-- R130. -/
theorem test_dec_indirect_to_zero :
    ran ({ base with f := 0x10 }.placeByte 0xC100 0x01) [0x35] (fun t => (t.coreByte 0xC100, t.f)) = some (some 0x00, 0xD0) := by decide

/-- R131. -/
theorem test_daa_after_add :
    ran ({ base with a := 0x7D, f := 0x00 }) [0x27] (fun t => (t.a, t.f)) = some (0x83, 0x00) := by decide

/-- R131. -/
theorem test_daa_not_bcd_input :
    ran ({ base with a := 0xFF, f := 0x00 }) [0x27] (fun t => (t.a, t.f)) = some (0x65, 0x10) := by decide

/-- R132. -/
theorem test_scf :
    ran ({ base with f := 0xF0 }) [0x37] (fun t => t.f) = some (0x90) := by decide

/-- R133. -/
theorem test_ccf :
    ran ({ base with f := 0xF0 }) [0x3F] (fun t => t.f) = some (0x80) := by decide

/-- R149. -/
theorem test_cpl :
    ran ({ base with a := 0x35, f := 0x00 }) [0x2F] (fun t => (t.a, t.f)) = some (0xCA, 0x60) := by decide

/-- R140. -/
theorem test_and_register_sets_half_carry :
    ran ({ base with a := 0x5A, b := 0xA5 }) [0xA0] (fun t => (t.a, t.f)) = some (0x00, 0xA0) := by decide

/-- R141. -/
theorem test_and_indirect :
    ran ({ base with a := 0x3A }.placeByte 0xC100 0xC6) [0xA6] (fun t => (t.a, t.f)) = some (0x02, 0x20) := by decide

/-- R143. -/
theorem test_xor_register :
    ran ({ base with a := 0x3A, b := 0xC6 }) [0xA8] (fun t => (t.a, t.f)) = some (0xFC, 0x00) := by decide

/-- R145. -/
theorem test_xor_immediate :
    ran ({ base with a := 0x5A }) [0xEE, 0xA5] (fun t => (t.a, t.f)) = some (0xFF, 0x00) := by decide

/-- R148. -/
theorem test_or_immediate :
    ran ({ base with a := 0x10 }) [0xF6, 0x01] (fun t => (t.a, t.f)) = some (0x11, 0x00) := by decide

/-- R150. -/
theorem test_add_hl_carry_out_of_bit_11 :
    ran ({ base with h := 0x0F, l := 0xFF, b := 0x00, c := 0x01, f := 0x00 }) [0x09] (fun t => (t.hl, t.f)) = some (0x1000, 0x20) := by decide

/-- R151. -/
theorem test_inc_pair_no_flag :
    ran ({ base with b := 0x00, c := 0xFF, f := 0xF0 }) [0x03] (fun t => (t.b, t.c, t.f)) = some (0x01, 0x00, 0xF0) := by decide

/-- R152. -/
theorem test_dec_pair_no_flag :
    ran ({ base with b := 0x01, c := 0x00, f := 0xF0 }) [0x0B] (fun t => (t.bc, t.f)) = some (0x00FF, 0xF0) := by decide

/-- R153. -/
theorem test_add_sp_negative :
    ran ({ base with sp := 0x0001 }) [0xE8, 0xFF] (fun t => (t.sp, t.f)) = some (0x0000, 0x30) := by decide

/-- R233. -/
theorem test_ld_hl_sp_offset :
    ran ({ base with sp := 0xFFF8 }) [0xF8, 0x08] (fun t => (t.hl, t.f, t.sp)) = some (0x0000, 0x30, 0xFFF8) := by decide

/-- R168. -/
theorem test_rlca_forces_z_zero :
    ran ({ base with a := 0x00, f := 0xE0 }) [0x07] (fun t => (t.a, t.f)) = some (0x00, 0x00) := by decide

/-- R169. -/
theorem test_rrca :
    ran ({ base with a := 0x01, f := 0x00 }) [0x0F] (fun t => (t.a, t.f)) = some (0x80, 0x10) := by decide

/-- R170. -/
theorem test_rla_through_carry :
    ran ({ base with a := 0x80, f := 0x00 }) [0x17] (fun t => (t.a, t.f)) = some (0x00, 0x10) := by decide

/-- R171. -/
theorem test_rra_through_carry :
    ran ({ base with a := 0x00, f := 0x10 }) [0x1F] (fun t => (t.a, t.f)) = some (0x80, 0x00) := by decide

/-- R172. -/
theorem test_rlc_register :
    ran ({ base with b := 0x85 }) [0xCB, 0x00] (fun t => (t.b, t.f, t.pc, t.report)) = some (0x0B, 0x10, 0xC002, .executed (.extendedCB 8)) := by decide

/-- R173. -/
theorem test_rlc_indirect :
    ran ({ base with f := 0x10 }.placeByte 0xC100 0x80) [0xCB, 0x06] (fun t => (t.coreByte 0xC100, t.f, t.report)) = some (some 0x01, 0x10, .executed (.extendedCB 16)) := by decide

/-- R174. -/
theorem test_rrc_register :
    ran ({ base with b := 0x01 }) [0xCB, 0x08] (fun t => (t.b, t.f)) = some (0x80, 0x10) := by decide

/-- R176. -/
theorem test_rl_register :
    ran ({ base with b := 0x80, f := 0x00 }) [0xCB, 0x10] (fun t => (t.b, t.f)) = some (0x00, 0x90) := by decide

/-- R178. -/
theorem test_rr_register :
    ran ({ base with b := 0x00, f := 0x10 }) [0xCB, 0x18] (fun t => (t.b, t.f)) = some (0x80, 0x00) := by decide

/-- R180. -/
theorem test_sla_register :
    ran ({ base with b := 0x85 }) [0xCB, 0x20] (fun t => (t.b, t.f)) = some (0x0A, 0x10) := by decide

/-- R182. -/
theorem test_sra_register :
    ran ({ base with b := 0x85 }) [0xCB, 0x28] (fun t => (t.b, t.f)) = some (0xC2, 0x10) := by decide

/-- R184. -/
theorem test_swap_register_clears_carry :
    ran ({ base with b := 0x85, f := 0x10 }) [0xCB, 0x30] (fun t => (t.b, t.f)) = some (0x58, 0x00) := by decide

/-- R186. -/
theorem test_srl_register :
    ran ({ base with b := 0x85 }) [0xCB, 0x38] (fun t => (t.b, t.f)) = some (0x42, 0x10) := by decide

/-- R188. -/
theorem test_bit_register_keeps_carry :
    ran ({ base with a := 0x7F, f := 0x10 }) [0xCB, 0x7F] (fun t => (t.a, t.f)) = some (0x7F, 0xB0) := by decide

/-- R189. -/
theorem test_bit_indirect_does_not_write :
    ran ({ base with f := 0x10 }.placeByte 0xC100 0xFE) [0xCB, 0x46] (fun t => (t.coreByte 0xC100, t.f, t.report)) = some (some 0xFE, 0xB0, .executed (.extendedCB 12)) := by decide

/-- R190. -/
theorem test_res_register :
    ran ({ base with b := 0xFF, f := 0xF0 }) [0xCB, 0xB8] (fun t => (t.b, t.f)) = some (0x7F, 0xF0) := by decide

/-- R94, R192. -/
theorem test_set_through_cb_cb :
    ran ({ base with e := 0x00, f := 0x00 }) [0xCB, 0xCB] (fun t => (t.e, t.f)) = some (0x02, 0x00) := by decide

/-- R200. -/
theorem test_ld_h_l_changes_hl :
    ran ({ base with h := 0xC0, l := 0x00 }) [0x65] (fun t => t.hl) = some (0x0000) := by decide

/-- R201. -/
theorem test_ld_a_immediate :
    ran base [0x3E, 0x42] (fun t => (t.a, t.pc)) = some (0x42, 0xC002) := by decide

/-- R202. -/
theorem test_ld_h_from_hl :
    ran (base.placeByte 0xC100 0xD0) [0x66] (fun t => t.hl) = some (0xD000) := by decide

/-- R203. -/
theorem test_ld_hl_from_l :
    ran ({ base with h := 0xC1, l := 0x23 }) [0x75] (fun t => t.coreByte 0xC123) = some (some 0x23) := by decide

/-- R204. -/
theorem test_ld_hl_immediate :
    ran base [0x36, 0x99] (fun t => (t.coreByte 0xC100, t.pc)) = some (some 0x99, 0xC002) := by decide

/-- R205. -/
theorem test_ld_a_from_bc :
    ran ({ base with b := 0xC2, c := 0x00 }.placeByte 0xC200 0x3C) [0x0A] (fun t => t.a) = some (0x3C) := by decide

/-- R206. -/
theorem test_ld_a_from_de_high_ram :
    ran ({ base with d := 0xFF, e := 0x80 }.placeByte 0xFF80 0x01) [0x1A] (fun t => t.a) = some (0x01) := by decide

/-- R208, R44. -/
theorem test_ld_de_a_through_echo :
    ran ({ base with d := 0xE0, e := 0x10, a := 0xAB }) [0x12] (fun t => t.coreByte 0xC010) = some (some 0xAB) := by decide

/-- R209. -/
theorem test_ld_a_absolute :
    ran (base.placeByte 0xC234 0x9A) [0xFA, 0x34, 0xC2] (fun t => (t.a, t.pc)) = some (0x9A, 0xC003) := by decide

/-- R210. -/
theorem test_ld_absolute_a_writes_ie :
    ran ({ base with a := 0x05 }) [0xEA, 0xFF, 0xFF] (fun t => t.ie) = some (0x05) := by decide

/-- R211. -/
theorem test_ldh_reads_if :
    ran ({ base with ifr := 0xE1 }) [0xF0, 0x0F] (fun t => t.a) = some (0xE1) := by decide

/-- R212. -/
theorem test_ldh_writes_high_ram :
    ran ({ base with a := 0x77 }) [0xE0, 0x80] (fun t => t.coreByte 0xFF80) = some (some 0x77) := by decide

/-- R213. -/
theorem test_ld_a_from_c :
    ran ({ base with c := 0x80 }.placeByte 0xFF80 0x42) [0xF2] (fun t => t.a) = some (0x42) := by decide

/-- R214. -/
theorem test_ld_c_a_writes_if :
    ran ({ base with c := 0x0F, a := 0x01 }) [0xE2] (fun t => t.ifr) = some (0x01) := by decide

/-- R215. -/
theorem test_ld_hl_inc_wraps_over_ie :
    ran ({ base with h := 0xFF, l := 0xFF, a := 0x11 }) [0x22] (fun t => (t.ie, t.hl)) = some (0x11, 0x0000) := by decide

/-- R216. -/
theorem test_ld_a_hl_inc :
    ran ({ base with h := 0xC1, l := 0xFF }.placeByte 0xC1FF 0x22) [0x2A] (fun t => (t.a, t.hl)) = some (0x22, 0xC200) := by decide

/-- R217. -/
theorem test_ld_hl_dec_a :
    ran ({ base with a := 0x33 }) [0x32] (fun t => (t.coreByte 0xC100, t.hl)) = some (some 0x33, 0xC0FF) := by decide

/-- R218. -/
theorem test_ld_a_hl_dec :
    ran (base.placeByte 0xC100 0x44) [0x3A] (fun t => (t.a, t.hl)) = some (0x44, 0xC0FF) := by decide

/-- R230. -/
theorem test_ld_pair_little_endian :
    ran base [0x21, 0x34, 0x12] (fun t => (t.h, t.l, t.pc)) = some (0x12, 0x34, 0xC003) := by decide

/-- R231. -/
theorem test_ld_absolute_sp :
    ran ({ base with sp := 0xFFF8 }) [0x08, 0x00, 0xC1] (fun t => (t.coreByte 0xC100, t.coreByte 0xC101)) = some (some 0xF8, some 0xFF) := by decide

/-- R232. -/
theorem test_ld_sp_hl :
    ran ({ base with h := 0xD0, l := 0x00 }) [0xF9] (fun t => t.sp) = some (0xD000) := by decide

/-- R234. -/
theorem test_push_high_byte_first :
    ran ({ base with b := 0x12, c := 0x34 }) [0xC5] (fun t => (t.coreByte 0xFFFD, t.coreByte 0xFFFC, t.sp)) = some (some 0x12, some 0x34, 0xFFFC) := by decide

/-- R235. -/
theorem test_pop_low_byte_first :
    ran (({ base with sp := 0xFFFC }.placeByte 0xFFFC 0x34).placeByte 0xFFFD 0x12) [0xD1] (fun t => (t.de, t.sp)) = some (0x1234, 0xFFFE) := by decide

/-- R236. -/
theorem test_pop_af_drops_low_nibble :
    ran (({ base with sp := 0xFFFC }.placeByte 0xFFFC 0xFF).placeByte 0xFFFD 0x12) [0xF1] (fun t => (t.a, t.f, t.sp)) = some (0x12, 0xF0, 0xFFFE) := by decide

/-- R242. -/
theorem test_jp_taken_reports_class :
    ran ({ base with f := 0x80 }) [0xCA, 0x00, 0xD0] (fun t => (t.pc, t.report)) = some (0xD000, .executed .conditionalTaken) := by decide

/-- R242. -/
theorem test_jp_not_taken :
    ran ({ base with f := 0x00 }) [0xCA, 0x00, 0xD0] (fun t => (t.pc, t.report)) = some (0xC003, .executed .default) := by decide

/-- R243. -/
theorem test_jp_hl_is_no_load :
    ran ({ base with h := 0xC1, l := 0x23 }) [0xE9] (fun t => t.pc) = some (0xC123) := by decide

/-- R244. -/
theorem test_jr_back :
    ran base [0x18, 0x80] (fun t => t.pc) = some (0xBF82) := by decide

/-- R245. -/
theorem test_jr_not_taken :
    ran ({ base with f := 0x80 }) [0x20, 0xFC] (fun t => t.pc) = some (0xC002) := by decide

/-- R246. -/
theorem test_call_pushes_next_address :
    ran base [0xCD, 0x34, 0x12] (fun t => (t.coreByte 0xFFFD, t.coreByte 0xFFFC, t.sp, t.pc)) = some (some 0xC0, some 0x03, 0xFFFC, 0x1234) := by decide

/-- R247. -/
theorem test_call_not_taken :
    ran ({ base with f := 0x00 }) [0xDC, 0x00, 0xD0] (fun t => (t.pc, t.sp)) = some (0xC003, 0xFFFE) := by decide

/-- R248. -/
theorem test_ret :
    ran (({ base with sp := 0xFFFC }.placeByte 0xFFFC 0x03).placeByte 0xFFFD 0xC0) [0xC9] (fun t => (t.pc, t.sp)) = some (0xC003, 0xFFFE) := by decide

/-- R249. -/
theorem test_ret_not_taken :
    ran ({ base with f := 0x00 }) [0xC8] (fun t => (t.pc, t.sp)) = some (0xC001, 0xFFFE) := by decide

/-- R250. -/
theorem test_reti_sets_ime :
    ran (({ base with sp := 0xFFFC }.placeByte 0xFFFC 0x03).placeByte 0xFFFD 0xC0) [0xD9] (fun t => (t.pc, t.sp, t.ime)) = some (0xC003, 0xFFFE, true) := by decide

/-- R251. -/
theorem test_rst :
    ran base [0xEF] (fun t => (t.coreByte 0xFFFD, t.coreByte 0xFFFC, t.sp, t.pc)) = some (some 0xC0, some 0x01, 0xFFFC, 0x0028) := by decide

/-- R260. -/
theorem test_nop_moves_pc :
    ran base [0x00] (fun t => (t.pc, t.af)) = some (0xC001, 0x1180) := by decide

/-- R261. -/
theorem test_halt :
    ran base [0x76] (fun t => (t.halted, t.pc)) = some (true, 0xC001) := by decide

/-- R263. -/
theorem test_di :
    ran ({ base with ime := true }) [0xF3] (fun t => t.ime) = some (false) := by decide

/-- R264. -/
theorem test_ei_at_once :
    ran base [0xFB] (fun t => t.ime) = some (true) := by decide

/-- R264. -/
theorem test_ei_delayed :
    ran delayed [0xFB] (fun t => (t.ime, t.eiPending)) = some (false, true) := by decide

/-- R264, R270. -/
theorem test_ei_pending_taken_by_next_step :
    ran ({ delayed with eiPending := true }) [0x00] (fun t => (t.ime, t.eiPending)) = some (true, false) := by decide

/-- R281, R282. -/
theorem test_dispatch_lowest_bit_wins :
    ran ({ base with ime := true, ie := 0x1F, ifr := 0x14, halted := true }) [0x00] (fun t => (t.pc, t.ifr, t.ime, t.halted)) = some (0x0050, 0x10, false, false) := by decide

/-- R282, R271. -/
theorem test_dispatch_pushes_pc :
    ran ({ base with ime := true, ie := 0x1F, ifr := 0x14 }) [0x00] (fun t => (t.coreByte 0xFFFD, t.coreByte 0xFFFC, t.report)) = some (some 0xC0, some 0x00, .interruptDispatch 2) := by decide

/-- R283. -/
theorem test_halted_idles :
    ran ({ base with halted := true, ie := 0x01, ifr := 0x02 }) [0x00] (fun t => (t.pc, t.halted, t.report)) = some (0xC000, true, .haltIdle) := by decide

/-- R283, R305. -/
theorem test_halted_wakes_without_ime :
    ran ({ base with halted := true, ie := 0x01, ifr := 0x01 }) [0x3C] (fun t => (t.pc, t.halted, t.a, t.ifr)) = some (0xC001, false, 0x12, 0x01) := by decide

/-- R74. -/
theorem test_environment_raises_pending :
    ran ({ base with ime := true, ie := 0x04, envIrq := [0x04] }) [0x00] (fun t => (t.pc, t.ifr, t.envIrq)) = some (0x0050, 0x00, []) := by decide

/-- R262. -/
theorem test_stop_stop :
    stopped base [0x10, 0x00] (fun t => t.pc) = some (.stopNotModelled 0xC000, 0xC001) := by decide

/-- R266. -/
theorem test_stop_unassigned_byte :
    stopped base [0xDD] (fun t => t.pc) = some (.invalidOpcode 0xDD 0xC000 0xFFFE, 0xC001) := by decide

/-- R211, R53. -/
theorem test_stop_ldh_out_of_range :
    stopped base [0xF0, 0x03] (fun t => (t.pc, t.a)) = some (.addressOutOfRange 0xFF03, (0xC002, 0x11)) := by decide

/-- R212, R47. -/
theorem test_stop_dma_latch_then_trap :
    stopped ({ base with a := 0x77 }) [0xE0, 0x46] (fun t => t.dmaLatch) = some (.notImplemented .oamDma 0xFF46 (.write 0x77), 0x77) := by decide

/-- R277, R282. -/
theorem test_stop_push_of_dispatch_faults :
    stopped ({ base with sp := 0xFF00, ime := true, ie := 0x01, ifr := 0x01 }) [0x00] (fun t => (t.ime, t.ifr, t.sp, t.pc)) = some (.addressOutOfRange 0xFEFF, (false, 0x00, 0xFEFF, 0xC000)) := by decide

/-- R310. -/
theorem test_stop_fetch_across_region_end :
    stopped ({ base with pc := 0xFDFF }) [0x3E] (fun t => (t.pc, t.a)) = some (.addressOutOfRange 0xFE00, (0xFE00, 0x11)) := by decide

/-- R273, R302 item 1: with no handler the first step after reset ends at its fetch. -/
theorem test_stop_reset_without_handler :
    stopped State.reset [] (fun t => t.pc) = some (.notImplemented .cartRomVram 0x0100 .read, 0x0100) := by decide

/-- R277: a faulted core takes no step. -/
theorem test_faulted_takes_no_step :
    (match step { base with status := .faulted .operandCapability } with
      | .refused (.notRunning c) => decide (c = .operandCapability)
      | _ => false) = true := by decide

/-- R307, R308: the cost a report selects. -/
theorem test_reported_cost :
    [reportedCost 0xC4 (.executed .default), reportedCost 0xC4 (.executed .conditionalTaken), reportedCost 0xCB (.executed (.extendedCB 12)),
      reportedCost 0xD3 (.executed .default), reportedCost 0x00 (.interruptDispatch 0), reportedCost 0x00 .haltIdle] =
    [some 12, some 24, some 12, none, some 20, some 4] := by decide

/-! ### The host's two questions, on words as the table numbers them (R100) -/

theorem test_table_words :
    decodeTableWord 8 0x00 = some .nop ∧ decodeTableWord 16 0x423E = some (.ldAD8 0x42) ∧ decodeTableWord 24 0x123421 = some (.ldHlD16 0x1234) ∧
    decodeTableWord 16 0xCB11 = some .rlC ∧ decodeTableWord 8 0xCB = some .prefixCb ∧ decodeTableWord 8 0x3E = some (.ldAD8 0x00) :=
  ⟨rfl, rfl, rfl, rfl, rfl, rfl⟩

/-- R277, R300: only a reset leaves `Faulted`, and it keeps the platform. -/
theorem test_reset_event_leaves_faulted :
    ({ delayed with status := .faulted .operandCapability, pc := 0xC123 } : State).afterReset =
      { State.reset with platform := delayed.platform } := by decide

/-- After reset, the word placed where the step fetches is what it runs. -/
theorem test_first_step_runs_word :
    (match step (State.reset.withFetchWord 16 0xCB2F) with
      | .next t => decide (t.a = 0x08 ∧ t.f = 0x10 ∧ t.pc = 0x0102)
      | _ => false) = true := by decide

/-! ### Witnesses: data that meets the hypotheses of a statement, one theorem each, its clauses at their boundaries -/

/-- A state whose `pc`, `sp` and HL are all out of range. -/
def lost : State := { base with pc := 0xFE00, sp := 0xFE00, h := 0xFE, l := 0xFF }

/-- `base` with every bit of `pend` set. -/
def pending : State := { base with ie := 0xFF, ifr := 0x1F }

theorem witness_DecodeOfEncode : (Instr.callA16 0xC123).wellFormed = true := by decide

theorem witness_EncodeOfDecode :
    (decode [0x3E, 0x42, 0x00] = .ok (.ldAD8 0x42) ∧ (Instr.ldAD8 0x42).wellFormed = true) ∧
    (decode [0x10, 0x99] = .ok .stop ∧ Instr.stop.wellFormed = true) := ⟨⟨rfl, rfl⟩, rfl, rfl⟩

theorem witness_LengthFromFirstByte :
    Instr.rlcB.wellFormed = true ∧ Instr.set7A.wellFormed = true ∧ (encode .rlcB).head? = (encode .set7A).head? ∧
    (encode .rlcB).head? = some 0xCB := ⟨rfl, rfl, rfl, rfl⟩

theorem witness_RouterReads :
    ([0xC000, 0xDFFF] : List Word).all (fun a => decide (0xC000 ≤ a.toNat ∧ a.toNat ≤ 0xDFFF)) = true ∧
    ([0xE000, 0xFDFF] : List Word).all (fun a => decide (0xE000 ≤ a.toNat ∧ a.toNat ≤ 0xFDFF)) = true ∧
    ([0xFF80, 0xFFFE] : List Word).all (fun a => decide (0xFF80 ≤ a.toNat ∧ a.toNat ≤ 0xFFFE)) = true ∧
    ([0xFE00, 0xFEFF, 0xFF03, 0xFF08, 0xFF0E, 0xFF4C, 0xFF4E, 0xFF50, 0xFF67, 0xFF6A, 0xFF6F, 0xFF71, 0xFF7E] : List Word).all
      (fun a => decide (route a = .outOfRange)) = true ∧
    (0xFF0F : Word).toNat = 0xFF0F ∧ (0xFFFF : Word).toNat = 0xFFFF ∧ (0xFF4D : Word).toNat = 0xFF4D ∧ (0xFF7F : Word).toNat = 0xFF7F := by
  decide

/-- No address falls under two clauses: the router's answer at each boundary. -/
theorem witness_RouterWrites :
    ([0xC000, 0xDFFF, 0xE000, 0xFDFF, 0xFE00, 0xFF0F, 0xFF4D, 0xFF7F, 0xFF80, 0xFFFE, 0xFFFF] : List Word).map route =
    [.ram 0xC000, .ram 0xDFFF, .ram 0xC000, .ram 0xDDFF, .outOfRange, .interruptFlags, .speedSwitch, .tolerated, .ram 0xFF80,
      .ram 0xFFFE, .interruptEnable] := by decide

theorem witness_CollaboratorAccess :
    ([0x0000, 0x9FFF, 0xA000, 0xBFFF, 0xFF46, 0xFF47, 0xFF70] : List Word).map route =
    [.collaborator .cartRomVram, .collaborator .cartRomVram, .collaborator .cartRam, .collaborator .cartRam, .collaborator .oamDma,
      .collaborator .ppu, .collaborator .svbk] ∧
    base.hasHandler .oamDma = false ∧ (base.placeByte 0xFF46 0x00).hasHandler .oamDma = true := by decide

theorem witness_EchoReadsBack :
    ([0xC000, 0xDDFF] : List Word).all (fun a => decide (0xC000 ≤ a.toNat ∧ a.toNat ≤ 0xDDFF)) = true := by decide

theorem witness_WriteFrame : (0xFDFF : Word) ≠ 0xFF46 ∧ (0xFDFF : Word) ≠ 0xFF70 ∧ (∃ t, memWrite 0xFDFF 0x5A base = .next t) ∧ ∃ e, memWrite 0xFF46 0x5A base = .fault e :=
  ⟨by decide, by decide, ⟨_, rfl⟩, _, rfl⟩

theorem witness_FetchByte :
    base.accessible base.pc = true ∧ lost.accessible lost.pc = false ∧ lost.status = .running ∧ lost.envIrq = [] ∧ lost.halted = false ∧
    lost.eiPending = false ∧ lost.ie &&& lost.ifr &&& 0x1F = 0 := by decide

theorem witness_AluIndirect : base.accessible base.hl = true ∧ lost.accessible lost.hl = false := by decide

theorem witness_IncDecIndirect : ({ base with h := 0xFD, l := 0xFF } : State).accessible 0xFDFF = true ∧ lost.accessible lost.hl = false := by
  decide

theorem witness_RotateIndirect : ({ base with h := 0xFF, l := 0xFF } : State).accessible 0xFFFF = true ∧ lost.accessible lost.hl = false := by
  decide

theorem witness_BitTest : ({ base with h := 0xFF, l := 0x7F } : State).accessible 0xFF7F = true ∧ lost.accessible lost.hl = false := by
  decide

theorem witness_ResSetIndirect : ({ base with h := 0xC0, l := 0x00 } : State).accessible 0xC000 = true ∧ lost.accessible lost.hl = false := by
  decide

theorem witness_DecimalAdjustGivesBcd :
    let s : State := { base with a := 0x99, b := 0x99, f := 0x10 }
    (99 < 100) ∧ s.a = byteOf (16 * (99 / 10) + 99 % 10) ∧ s.reg8 .b = byteOf (16 * (99 / 10) + 99 % 10) := by decide

theorem witness_StoreStackPointer :
    base.accessible 0xFFFE = true ∧ base.accessible (0xFFFE + 1) = true ∧ base.accessible 0xFEFF = false ∧
    (∃ t, memWrite 0xFDFF (loByte base.sp) base = .next t) ∧ base.accessible (0xFDFF + 1) = false :=
  ⟨by decide, by decide, by decide, ⟨_, rfl⟩, by decide⟩

theorem witness_AccumulatorRotates :
    ((.rra, .rr, 0x1F) : Instr × Rot × Byte) ∈ [(.rlca, .rlc, 0x07), (.rrca, .rrc, 0x0F), (.rla, .rl, 0x17), (.rra, .rr, 0x1F)] := by simp

theorem witness_LoadFromMemory :
    base.accessible base.hl = true ∧ base.accessible 0xFF0F = true ∧ base.accessible base.bc = false ∧ base.accessible 0xFF03 = false := by decide

theorem witness_StoreToMemory :
    base.accessible base.hl = true ∧ base.accessible 0xFF4D = true ∧ base.accessible base.bc = false ∧ base.accessible 0xFF70 = false := by decide

theorem witness_PushStores :
    base.canPush = true ∧ ({ base with sp := 0x0000 } : State).canPush = true ∧
    ({ base with sp := 0xFF00 } : State).canPush = false ∧ ({ base with sp := 0xFF00 } : State).accessible (0xFF00 - 1) = false ∧
    ({ base with sp := 0xFF80 } : State).canPush = false ∧ ({ base with sp := 0xFF80 } : State).accessible (0xFF80 - 1) = true := by
  decide

theorem witness_PopLoads :
    ({ base with sp := 0xFFFE } : State).canPop = true ∧ lost.canPop = false ∧ lost.accessible lost.sp = false ∧
    ({ base with sp := 0xFDFF } : State).canPop = false ∧ base.accessible 0xFDFF = true := by decide

theorem witness_PushThenPop :
    base.f &&& 0x0F = 0 ∧ route (base.sp - 1) = .ram 0xFFFD ∧ route (base.sp - 2) = .ram 0xFFFC ∧
    route (0xE001 - 1) = .ram 0xC000 ∧ route (0xE001 - 2) = .ram 0xDFFF := by decide

theorem witness_CallAndRst :
    base.canPush = true ∧
    ({ base with sp := 0xFE01 } : State).canPush = false ∧ ({ base with sp := 0xFE01 } : State).accessible (0xFE01 - 1) = false ∧
    ({ base with sp := 0xC001 } : State).canPush = false ∧ ({ base with sp := 0xC001 } : State).accessible (0xC001 - 1) = true := by
  decide

theorem witness_ConditionalCall :
    base.holds .z = true ∧ base.canPush = true ∧ base.holds .nz = false ∧
    ({ base with sp := 0xFF00 } : State).holds .z = true ∧ ({ base with sp := 0xFF00 } : State).canPush = false ∧
    ({ base with sp := 0xFF80 } : State).holds .z = true ∧ ({ base with sp := 0xFF80 } : State).canPush = false := by decide

theorem witness_Returns :
    ({ base with sp := 0xFFFC } : State).canPop = true ∧ base.holds .nc = true ∧ base.holds .c = false ∧
    lost.canPop = false ∧ lost.holds .nc = true ∧
    ({ base with sp := 0xFDFF } : State).canPop = false ∧ ({ base with sp := 0xFDFF } : State).holds .nc = true := by decide

theorem witness_StopAndUnassignedStop : Instr.illegalFD.assigned = false := by decide

/-- The second byte at `pc` in RAM with `HL` in RAM too, and a `pc` in no row of the table. -/
theorem witness_PrefixRunsCbEntry :
    base.accessible base.pc = true ∧ base.accessible base.hl = true ∧
    ({ base with pc := 0xFE00 } : State).accessible 0xFE00 = false := by decide

/-- A CALL, with an environment mask to come and nothing to dispatch. -/
theorem witness_StepRunsDecodedInstruction :
    let s : State := ({ base with envIrq := [0x01] } : State).placeBytes 0xC000 [0xCD, 0x34, 0x12]
    s.status = .running ∧ ¬ (s.raiseEnvironment.ime = true ∧ s.raiseEnvironment.ie &&& s.raiseEnvironment.ifr &&& 0x1F ≠ 0) ∧
    s.raiseEnvironment.halted = false ∧ s.raiseEnvironment.eiPending = false ∧
    (∃ t, fetchBytes (fetchedBytes (.callA16 0x1234)) s.raiseEnvironment = .next ([0xCD, 0x34, 0x12], t)) ∧
    decode [0xCD, 0x34, 0x12] = .ok (.callA16 0x1234) ∧ (Instr.callA16 0x1234).wellFormed = true :=
  ⟨rfl, by decide, rfl, rfl, ⟨_, rfl⟩, rfl, rfl⟩

theorem witness_DispatchEntersHandler :
    let s : State := { pending with ime := true, ifr := 0x10 }
    s.status = .running ∧ s.raiseEnvironment.ime = true ∧ (s.ie &&& s.ifr &&& 0x1F).getLsbD 4 = true ∧
    (∀ j < 4, (s.ie &&& s.ifr &&& 0x1F).getLsbD j = false) ∧ s.canPush = true ∧
    ({ s with sp := 0xFF00 } : State).canPush = false ∧ ({ s with sp := 0xFF80 } : State).canPush = false := by decide

theorem witness_HaltIdlesAndWakes :
    (({ base with halted := true, ifr := 0xFF } : State).raiseEnvironment.halted = true ∧ base.ie &&& 0xFF &&& 0x1F = 0) ∧
    pending.status = .running ∧ pending.raiseEnvironment.ie &&& pending.raiseEnvironment.ifr &&& 0x1F ≠ 0 := by decide

theorem witness_EnvironmentRaisesIf : base.envIrq = [] := rfl

theorem witness_StepOutcomes :
    (∃ t, step (base.placeByte 0xC000 0x00) = .next t) ∧ (∃ e, step lost = .fault e) ∧ base.status = .running ∧
    ({ base with status := .faulted .operandCapability } : State).status = .faulted .operandCapability :=
  ⟨⟨_, rfl⟩, ⟨_, rfl⟩, rfl, rfl⟩

theorem witness_FatalKinds :
    (∃ e, step (base.placeByte 0xC000 0xDD) = .fault e ∧ e.cause = .invalidOpcode 0xDD 0xC000 0xFFFE) ∧
    (∃ e, step State.reset = .fault e ∧ e.cause = .notImplemented .cartRomVram 0x0100 .read) ∧
    (∃ e, step lost = .fault e ∧ e.cause = .addressOutOfRange 0xFE00) ∧
    (∃ e, step (base.placeByte 0xC000 0x10) = .fault e ∧ e.cause = .stopNotModelled 0xC000) :=
  ⟨⟨_, rfl, rfl⟩, ⟨_, rfl, rfl⟩, ⟨_, rfl, rfl⟩, _, rfl, rfl⟩

theorem witness_DispatchThenReti :
    let s : State := { pending with ime := true }
    s.status = .running ∧ s.raiseEnvironment.ime = true ∧ (s.ie &&& s.ifr &&& 0x1F).getLsbD 0 = true ∧
    (∀ j < 0, (s.ie &&& s.ifr &&& 0x1F).getLsbD j = false) ∧ route (s.sp - 1) = .ram 0xFFFD ∧ route (s.sp - 2) = .ram 0xFFFC := by decide

/-- The invariant holds at a state a program runs in, and its step answers a state. -/
theorem witness_StepKeepsWf : (base.placeByte 0xC000 0xF1).Wf ∧ ∃ t, step (base.placeByte 0xC000 0xF1) = .next t :=
  ⟨State.placeByte_wf ⟨rfl, fun _ => rfl, List.Pairwise.nil, fun _ h => absurd h List.not_mem_nil, List.Pairwise.nil⟩ _ _, ⟨_, rfl⟩⟩

theorem witness_FrameMemory : ∃ t, exec .pushAf base = .next t := ⟨_, rfl⟩

theorem witness_FrameRegistersAndFlags :
    (∃ t, exec .incB base = .next t) ∧ Instr.incB.writesReg .c = false ∧ Instr.incB.movesSp = false ∧
    Instr.incB.writesFlags.getLsbD 4 = false ∧ Instr.incBc.writesFlags = 0x00 := ⟨⟨_, rfl⟩, by decide, by decide, by decide, by decide⟩

theorem witness_FrameControlState :
    (∃ t, exec .pushBc base = .next t) ∧ Instr.pushBc ∉ [Instr.ei, .di, .reti] ∧ Instr.pushBc ∉ [Instr.ei, .di] ∧ Instr.pushBc ≠ .halt ∧
    Instr.pushBc.transfers = false ∧ Instr.pushBc ≠ .prefixCb ∧ 0xFF46 ∉ Instr.pushBc.storeAddresses base ∧
    0xFF70 ∉ Instr.pushBc.storeAddresses base :=
  ⟨⟨_, rfl⟩, by simp, by simp, by simp, by decide, by simp, by decide, by decide⟩

end Sys2Proof.Tests
end

section
/-! ### The rows of the two tables, as families -/

namespace Sys2Proof

/-- The instruction set as the tables lay it out (30_encoding.md rules R91, R92): one constructor per block of rows that share a shape,
over the block's operand fields, and one per single row. -/
inductive Instr.InTable : Instr → Prop where
  | nop : InTable .nop
  | ldIndA16Sp (a : Word) : InTable (.ldIndA16Sp a)
  | stop : InTable .stop
  | jrE8 (e : Byte) : InTable (.jrE8 e)
  | jrCc (cc : Cond) (e : Byte) : InTable (mkJrCc cc e)
  | ldRp (r : Rp) (d : Word) : InTable (mkLdRp r d)
  | addHl (r : Rp) : InTable (mkAddHl r)
  | ldIndBcA : InTable .ldIndBcA
  | ldIndDeA : InTable .ldIndDeA
  | ldIndHlIncA : InTable .ldIndHlIncA
  | ldIndHlDecA : InTable .ldIndHlDecA
  | ldAIndBc : InTable .ldAIndBc
  | ldAIndDe : InTable .ldAIndDe
  | ldAIndHlInc : InTable .ldAIndHlInc
  | ldAIndHlDec : InTable .ldAIndHlDec
  | incRp (r : Rp) : InTable (mkIncRp r)
  | decRp (r : Rp) : InTable (mkDecRp r)
  | inc (x : Loc) : InTable (mkInc x)
  | dec (x : Loc) : InTable (mkDec x)
  | ldImm (x : Loc) (d : Byte) : InTable (mkLdImm x d)
  | rlca : InTable .rlca
  | rrca : InTable .rrca
  | rla : InTable .rla
  | rra : InTable .rra
  | daa : InTable .daa
  | cpl : InTable .cpl
  | scf : InTable .scf
  | ccf : InTable .ccf
  | ld (x y : Loc) : InTable (mkLd x y)
  | alu (k : Alu) (x : Loc) : InTable (mkAlu k x)
  | retCc (cc : Cond) : InTable (mkRetCc cc)
  | ldhIndA8A (o : Byte) : InTable (.ldhIndA8A o)
  | addSpE8 (e : Byte) : InTable (.addSpE8 e)
  | ldhAIndA8 (o : Byte) : InTable (.ldhAIndA8 o)
  | ldHlSpE8 (e : Byte) : InTable (.ldHlSpE8 e)
  | pop (r : Rp2) : InTable (mkPop r)
  | ret : InTable .ret
  | reti : InTable .reti
  | jpHl : InTable .jpHl
  | ldSpHl : InTable .ldSpHl
  | jpCc (cc : Cond) (a : Word) : InTable (mkJpCc cc a)
  | ldIndCA : InTable .ldIndCA
  | ldIndA16A (a : Word) : InTable (.ldIndA16A a)
  | ldAIndC : InTable .ldAIndC
  | ldAIndA16 (a : Word) : InTable (.ldAIndA16 a)
  | jpA16 (a : Word) : InTable (.jpA16 a)
  | di : InTable .di
  | ei : InTable .ei
  | callCc (cc : Cond) (a : Word) : InTable (mkCallCc cc a)
  | push (r : Rp2) : InTable (mkPush r)
  | callA16 (a : Word) : InTable (.callA16 a)
  | aluImm (k : Alu) (d : Byte) : InTable (mkAluImm k d)
  | rst (y : Fin 8) : InTable (mkRst y)
  | illegalD3 : InTable .illegalD3
  | illegalDB : InTable .illegalDB
  | illegalDD : InTable .illegalDD
  | illegalE3 : InTable .illegalE3
  | illegalE4 : InTable .illegalE4
  | illegalEB : InTable .illegalEB
  | illegalEC : InTable .illegalEC
  | illegalED : InTable .illegalED
  | illegalF4 : InTable .illegalF4
  | illegalFC : InTable .illegalFC
  | illegalFD : InTable .illegalFD
  | rot (k : Rot) (x : Loc) : InTable (mkRot k x)
  | bit (n : Fin 8) (x : Loc) : InTable (mkBit n x)
  | res (n : Fin 8) (x : Loc) : InTable (mkRes n x)
  | set (n : Fin 8) (x : Loc) : InTable (mkSet n x)

/-- Every instruction the entry stands for, whatever its immediate, has the property. -/
def Row.All (P : Instr → Prop) (row : Row) : Prop :=
  match row with
  | .whole i => P i
  | .byteOperand f => ∀ d, P (f d)
  | .wordOperand f => ∀ d, P (f d)
  | .cbPrefix => True

/-- Every entry of the unprefixed table is a row of a family, by its fields. -/
theorem unprefixed_inTable (op : Byte) : (unprefixed op).All Instr.InTable := by
  unfold unprefixed
  repeat' split
  all_goals dsimp only [Row.All] <;> intros <;> constructor

/-- Every entry of the CB table is a row of a family. -/
theorem prefixed_inTable (op2 : Byte) : (prefixed op2).InTable := by
  unfold prefixed
  split
  · exact .rot _ _
  · exact .bit _ _
  · exact .res _ _
  · exact .set _ _

/-- No entry of the CB table is the byte 0xCB alone (R92). -/
theorem prefixed_wellFormed (op2 : Byte) : (prefixed op2).wellFormed = true := by
  unfold prefixed
  split
  · unfold Instr.mkRot; split <;> rfl
  · unfold Instr.mkBit; split <;> rfl
  · unfold Instr.mkRes; split <;> rfl
  · unfold Instr.mkSet; split <;> rfl

theorem prefixed_ne_prefixCb (op2 : Byte) : prefixed op2 ≠ .prefixCb := by
  intro h
  exact absurd ((prefixed_wellFormed op2).symm.trans (congrArg Instr.wellFormed h)) nofun

/-- Decoding the encoding of a whole instruction gives it back (R81, R90): the constructors with a word immediate put it together
from its two bytes, the others compute. -/
theorem decode_encode_append (i : Instr) : Laws.RoundTrip.Statement i := by
  cases i
  case prefixCb => exact Laws.RoundTrip.prefixCb
  case ldBcD16 w => exact Laws.RoundTrip.ldBcD16 w
  case ldIndA16Sp w => exact Laws.RoundTrip.ldIndA16Sp w
  case ldDeD16 w => exact Laws.RoundTrip.ldDeD16 w
  case ldHlD16 w => exact Laws.RoundTrip.ldHlD16 w
  case ldSpD16 w => exact Laws.RoundTrip.ldSpD16 w
  case jpNzA16 w => exact Laws.RoundTrip.jpNzA16 w
  case jpZA16 w => exact Laws.RoundTrip.jpZA16 w
  case jpNcA16 w => exact Laws.RoundTrip.jpNcA16 w
  case jpCA16 w => exact Laws.RoundTrip.jpCA16 w
  case jpA16 w => exact Laws.RoundTrip.jpA16 w
  case callNzA16 w => exact Laws.RoundTrip.callNzA16 w
  case callZA16 w => exact Laws.RoundTrip.callZA16 w
  case callNcA16 w => exact Laws.RoundTrip.callNcA16 w
  case callCA16 w => exact Laws.RoundTrip.callCA16 w
  case callA16 w => exact Laws.RoundTrip.callA16 w
  case ldIndA16A w => exact Laws.RoundTrip.ldIndA16A w
  case ldAIndA16 w => exact Laws.RoundTrip.ldAIndA16 w
  all_goals exact fun _ _ => rfl

/-- What decodes is a row of the tables, or the byte 0xCB alone. -/
theorem inTable_of_decode {bytes : List Byte} {i : Instr} (h : decode bytes = .ok i) : i.InTable ∨ i = .prefixCb := by
  unfold decode at h
  split at h
  · cases h
  · rename_i op rest
    have hop := unprefixed_inTable op
    split at h <;> cases h
    case h_1 hu => exact .inl (by rwa [hu] at hop)
    case h_2 hu => rw [hu] at hop; exact .inl (hop _)
    case h_4 hu => rw [hu] at hop; exact .inl (hop _)
    case h_6 => exact .inl (prefixed_inTable _)
    case h_7 => exact .inr rfl

/-- Every instruction but the byte 0xCB is a row of a family. -/
theorem Instr.inTable {i : Instr} (h : i ≠ .prefixCb) : i.InTable := by
  have hw : i.wellFormed = true := by unfold Instr.wellFormed; split <;> trivial
  have hd : decode (encode i ++ []) = .ok i := decode_encode_append i hw []
  exact (inTable_of_decode hd).resolve_right h

end Sys2Proof
end

section
/-! ### The meaning of each family of rows -/

namespace Sys2Proof.Machine

theorem exec_mkLd (x y : Loc) (h : x ≠ .indHl ∨ y ≠ .indHl) (s : State) :
    exec (Instr.mkLd x y) s = load8 (.ofLoc x) (.ofLoc y) s := by
  rcases x with (_ | _ | _ | _ | _ | _ | _) | _ <;> rcases y with (_ | _ | _ | _ | _ | _ | _) | _
  case indHl.indHl => simp at h
  all_goals rfl

theorem exec_mkAlu (k : Alu) (x : Loc) (s : State) : exec (Instr.mkAlu k x) s = alu8 k (.ofLoc x) s := by
  cases k <;> rcases x with (_ | _ | _ | _ | _ | _ | _) | _ <;> rfl

theorem exec_mkAluImm (k : Alu) (d : Byte) (s : State) : exec (Instr.mkAluImm k d) s = alu8 k (.imm d) s := by cases k <;> rfl

theorem exec_mkInc (x : Loc) (s : State) : exec (Instr.mkInc x) s = modify8 (.ofLoc x) inc8 s := by
  rcases x with (_ | _ | _ | _ | _ | _ | _) | _ <;> rfl

theorem exec_mkDec (x : Loc) (s : State) : exec (Instr.mkDec x) s = modify8 (.ofLoc x) dec8 s := by
  rcases x with (_ | _ | _ | _ | _ | _ | _) | _ <;> rfl

theorem exec_mkLdImm (x : Loc) (d : Byte) (s : State) : exec (Instr.mkLdImm x d) s = load8 (.ofLoc x) (.imm d) s := by
  rcases x with (_ | _ | _ | _ | _ | _ | _) | _ <;> rfl

theorem exec_mkLdRp (r : Rp) (d : Word) (s : State) : exec (Instr.mkLdRp r d) s = .next (s.setRp r d) := by cases r <;> rfl

theorem exec_mkAddHl (r : Rp) (s : State) : exec (Instr.mkAddHl r) s = addHl r s := by cases r <;> rfl

theorem exec_mkIncRp (r : Rp) (s : State) : exec (Instr.mkIncRp r) s = .next (s.setRp r (s.rp r + 1)) := by cases r <;> rfl

theorem exec_mkDecRp (r : Rp) (s : State) : exec (Instr.mkDecRp r) s = .next (s.setRp r (s.rp r - 1)) := by cases r <;> rfl

theorem exec_mkPop (r : Rp2) (s : State) : exec (Instr.mkPop r) s = popPair r s := by cases r <;> rfl

theorem exec_mkPush (r : Rp2) (s : State) : exec (Instr.mkPush r) s = pushPair r s := by cases r <;> rfl

theorem exec_mkJrCc (cc : Cond) (e : Byte) (s : State) : exec (Instr.mkJrCc cc e) s = whenCond cc (jumpBy e) s := by cases cc <;> rfl

theorem exec_mkRetCc (cc : Cond) (s : State) : exec (Instr.mkRetCc cc) s = whenCond cc returnTo s := by cases cc <;> rfl

theorem exec_mkJpCc (cc : Cond) (a : Word) (s : State) : exec (Instr.mkJpCc cc a) s = whenCond cc (jumpTo a) s := by cases cc <;> rfl

theorem exec_mkCallCc (cc : Cond) (a : Word) (s : State) : exec (Instr.mkCallCc cc a) s = whenCond cc (callTo a) s := by cases cc <;> rfl

theorem exec_mkRst (y : Fin 8) (s : State) : exec (Instr.mkRst y) s = callTo (BitVec.ofNat 16 (8 * y.val)) s := by
  fin_cases y <;> rfl

theorem exec_mkRot (k : Rot) (x : Loc) (s : State) : exec (Instr.mkRot k x) s = cbRot k x s := by
  cases k <;> rcases x with (_ | _ | _ | _ | _ | _ | _) | _ <;> rfl

theorem exec_mkBit (n : Fin 8) (x : Loc) (s : State) : exec (Instr.mkBit n x) s = cbBit n x s := by
  fin_cases n <;> rcases x with (_ | _ | _ | _ | _ | _ | _) | _ <;> rfl

theorem exec_mkRes (n : Fin 8) (x : Loc) (s : State) : exec (Instr.mkRes n x) s = cbRes n x s := by
  fin_cases n <;> rcases x with (_ | _ | _ | _ | _ | _ | _) | _ <;> rfl

theorem exec_mkSet (n : Fin 8) (x : Loc) (s : State) : exec (Instr.mkSet n x) s = cbSet n x s := by
  fin_cases n <;> rcases x with (_ | _ | _ | _ | _ | _ | _) | _ <;> rfl

/-- The entry of the CB table that a byte selects is the meaning of the row it decodes to (R92, R265). -/
theorem cbEntry_eq_exec (op2 : Byte) (s : State) : cbEntry op2 s = exec (prefixed op2) s := by
  unfold cbEntry prefixed
  generalize fieldX op2 = x
  match x with
  | 0 => exact (exec_mkRot _ _ s).symm
  | 1 => exact (exec_mkBit _ _ s).symm
  | 2 => exact (exec_mkRes _ _ s).symm
  | 3 => exact (exec_mkSet _ _ s).symm

/-- The row of 0xCB fetches a byte and is the meaning of the CB row it selects (R265). -/
theorem exec_prefixCb (s : State) : exec .prefixCb s = andThen (fetch8 s) fun p => exec (prefixed p.1) p.2 :=
  congrArg (andThen (fetch8 s)) (funext fun p => cbEntry_eq_exec p.1 p.2)

end Sys2Proof.Machine
end

section
/-! ### The shapes a meaning can have -/

namespace Sys2Proof.Machine

/-- Of the four flags, `new` differs from `old` in those of the mask `m` alone; a mask names at least one. -/
structure Flags.Keeps (m : Byte) (old new : Flags) : Prop where
  mask : m ≠ 0x00
  z : m.getLsbD 7 = false → new.z = old.z
  n : m.getLsbD 6 = false → new.n = old.n
  h : m.getLsbD 5 = false → new.h = old.h
  c : m.getLsbD 4 = false → new.c = old.c

/-- A mask of all four flags asks nothing. -/
theorem Flags.keeps_all (old new : Flags) : Flags.Keeps 0xF0 old new := ⟨by decide, nofun, nofun, nofun, nofun⟩

/-- The registers a read of the operand steps (R98). -/
def Operand8.steps (x : Operand8) : List Reg8 :=
  match x with
  | .indHlInc | .indHlDec => [.h, .l]
  | .reg _ | .imm _ | .indBc | .indDe | .indHl | .indAddr _ | .zeroPageC | .zeroPageImm _ => []

/-- An operand of an `r8` field steps nothing. -/
theorem Operand8.ofLoc_steps (x : Loc) : (Operand8.ofLoc x).steps = [] := by cases x <;> rfl

/-- The shapes of the instructions' meanings: every meaning is one of these (`exec_means`). -/
inductive Meaning where
  | nop
  | halt
  | di
  | ei
  | stop
  | unassigned (op : Byte)
  /-- `dst <- src`, from a source that steps nothing. -/
  | load (dst src : Operand8) (h : src.steps = [])
  /-- `A <- src`. -/
  | loadA (src : Operand8)
  /-- An operation on `A`. -/
  | alu (k : Alu) (src : Operand8)
  /-- Read, transform, write back, set the flags of the mask. -/
  | modify (x : Loc) (g : Byte → Flags → Byte × Flags) (m : Byte) (hm : ∀ v fl, Flags.Keeps m fl (g v fl).2)
  /-- Read, transform, write back. -/
  | modifyNoFlags (x : Loc) (g : Byte → Byte)
  /-- BIT: read, set flags. -/
  | bit (n : Fin 8) (x : Loc)
  /-- The flags of the mask, from the flags. -/
  | flags (g : Flags → Flags) (m : Byte) (hm : ∀ fl, Flags.Keeps m fl (g fl))
  /-- `r <- g q` for two pairs. -/
  | pair (r q : Rp) (g : Word → Word)
  | addHl (r : Rp)
  | addSp (e : Byte)
  | ldHlSp (e : Byte)
  | storeSp (a : Word)
  | push (r : Rp2)
  | pop (r : Rp2)
  | jump (a : Word)
  | jumpHl
  | jumpBy (e : Byte)
  | call (a : Word)
  | ret
  | reti
  /-- The meaning, then its timing class. -/
  | timed (t : Timing) (m : Meaning)
  /-- The meaning under a condition. -/
  | cond (cc : Cond) (m : Meaning)

/-- What a shape does, by the operations of Ops.lean and Operands.lean. -/
def Meaning.run (m : Meaning) (s : State) : Res State :=
  match m with
  | .nop => .next s
  | .halt => .next { s with halted := true }
  | .di => .next { s with ime := false, eiPending := false }
  | .ei => execEi s
  | .stop => raise (.stopNotModelled (s.pc - 1)) s
  | .unassigned op => unassignedByte op s
  | .load dst src _ => load8 dst src s
  | .loadA src => load8 (.reg .a) src s
  | .alu k src => alu8 k src s
  | .modify x g _ _ => modify8 (.ofLoc x) g s
  | .modifyNoFlags x g => modify8NoFlags (.ofLoc x) g s
  | .bit n x => andThen (readOperand8 (.ofLoc x) s) fun p => .next (p.2.setFlags (bitFlags n p.1 p.2.flags))
  | .flags g _ _ => .next (s.setFlags (g s.flags))
  | .pair r q g => .next (s.setRp r (g (s.rp q)))
  | .addHl r => Machine.addHl r s
  | .addSp e => execAddSpE8 e s
  | .ldHlSp e => execLdHlSpE8 e s
  | .storeSp a => memWrite16 a s.sp s
  | .push r => pushPair r s
  | .pop r => popPair r s
  | .jump a => jumpTo a s
  | .jumpHl => jumpTo s.hl s
  | .jumpBy e => Machine.jumpBy e s
  | .call a => callTo a s
  | .ret => returnTo s
  | .reti => returnFromInterrupt s
  | .timed t m => thenTiming t (m.run s)
  | .cond cc m => whenCond cc m.run s

/-! ### What a shape may change -/

/-- What an instruction may change beside memory: registers, flags (a mask over `F`), and the fields of control. -/
structure Footprint where
  regs : List Reg8 := []
  sp : Bool := false
  flags : Byte := 0x00
  pc : Bool := false
  ime : Bool := false
  eiPending : Bool := false
  halted : Bool := false

/-- The 8-bit registers in the order of R83. -/
def allReg8 : List Reg8 := [.b, .c, .d, .e, .h, .l, .a]

theorem mem_filter_allReg8 (w : Reg8 → Bool) (r : Reg8) : r ∈ allReg8.filter w ↔ w r = true := by
  cases r <;> simp [allReg8]

/-- The footprint the tables of Safety.lean and the statements give an instruction: `pc` moves at a control transfer and at the fetch
of the row of 0xCB. -/
def footprintOf (i : Instr) : Footprint where
  regs := allReg8.filter i.writesReg
  sp := i.movesSp
  flags := i.writesFlags
  pc := i.transfers || decide (i = .prefixCb)
  ime := decide (i ∈ [Instr.ei, .di, .reti])
  eiPending := decide (i ∈ [Instr.ei, .di])
  halted := decide (i = .halt)

/-- The registers a write of the operand changes. -/
def Operand8.writes (x : Operand8) : List Reg8 :=
  match x with
  | .reg r => [r]
  | .imm _ | .indBc | .indDe | .indHl | .indHlInc | .indHlDec | .indAddr _ | .zeroPageC | .zeroPageImm _ => x.steps

/-- The addresses a write of the operand stores to. -/
def Operand8.stores (x : Operand8) (s : State) : List Word :=
  match x with
  | .reg _ | .imm _ => []
  | .indBc => [s.bc]
  | .indDe => [s.de]
  | .indHl | .indHlInc | .indHlDec => [s.hl]
  | .indAddr a => [a]
  | .zeroPageC => [zeroPage s.c]
  | .zeroPageImm o => [zeroPage o]

/-- The halves of a pair of `rp`. -/
def rpRegs (r : Rp) : List Reg8 :=
  match r with
  | .bc => [.b, .c] | .de => [.d, .e] | .hl => [.h, .l] | .sp => []

/-- The footprint of a shape. -/
def Meaning.footprint (m : Meaning) : Footprint :=
  match m with
  | .nop | .stop | .unassigned _ | .storeSp _ => {}
  | .halt => { halted := true }
  | .di | .ei => { ime := true, eiPending := true }
  | .load dst _ _ => { regs := dst.writes }
  | .loadA src => { regs := src.steps ++ [.a] }
  | .alu k src => { regs := src.steps ++ if aluWritesA k then [.a] else [], flags := 0xF0 }
  | .modify x _ m _ => { regs := (Operand8.ofLoc x).writes, flags := m }
  | .modifyNoFlags x _ => { regs := (Operand8.ofLoc x).writes }
  | .bit _ _ => { flags := 0xE0 }
  | .flags _ m _ => { flags := m }
  | .pair r _ _ => { regs := rpRegs r, sp := decide (r = .sp) }
  | .addHl _ => { regs := [.h, .l], flags := 0x70 }
  | .addSp _ => { sp := true, flags := 0xF0 }
  | .ldHlSp _ => { regs := [.h, .l], flags := 0xF0 }
  | .push _ => { sp := true }
  | .pop .bc => { regs := [.b, .c], sp := true }
  | .pop .de => { regs := [.d, .e], sp := true }
  | .pop .hl => { regs := [.h, .l], sp := true }
  | .pop .af => { regs := [.a], sp := true, flags := 0xF0 }
  | .jump _ | .jumpHl | .jumpBy _ => { pc := true }
  | .call _ | .ret => { sp := true, pc := true }
  | .reti => { sp := true, pc := true, ime := true }
  | .timed _ m | .cond _ m => m.footprint

/-- The addresses a shape stores to. -/
def Meaning.stores (m : Meaning) (s : State) : List Word :=
  match m with
  | .load dst _ _ => dst.stores s
  | .modify x _ _ _ | .modifyNoFlags x _ => (Operand8.ofLoc x).stores s
  | .storeSp a => [a, a + 1]
  | .push _ | .call _ => [s.sp - 1, s.sp - 2]
  | .timed _ m => m.stores s
  | .cond cc m => if s.cond cc then m.stores s else []
  | .nop | .halt | .di | .ei | .stop | .unassigned _ | .loadA _ | .alu _ _ | .bit _ _ | .flags _ _ _ | .pair _ _ _ | .addHl _
  | .addSp _ | .ldHlSp _ | .pop _ | .jump _ | .jumpHl | .jumpBy _ | .ret | .reti => []

/-- The shape is the instruction's meaning, and may change what the tables of Safety.lean say. -/
structure Means (i : Instr) (m : Meaning) : Prop where
  run : ∀ s, exec i s = m.run s := by exact fun _ => rfl
  footprint : footprintOf i = m.footprint := by rfl
  stores : ∀ s, i.storeAddresses s = m.stores s := by exact fun _ => rfl

theorem inc8_keeps (v : Byte) (fl : Flags) : Flags.Keeps 0xE0 fl (inc8 v fl).2 := ⟨by decide, nofun, nofun, nofun, fun _ => rfl⟩
theorem dec8_keeps (v : Byte) (fl : Flags) : Flags.Keeps 0xE0 fl (dec8 v fl).2 := ⟨by decide, nofun, nofun, nofun, fun _ => rfl⟩
theorem daa_keeps (v : Byte) (fl : Flags) : Flags.Keeps 0xB0 fl (daa v fl).2 := ⟨by decide, nofun, fun _ => rfl, nofun, nofun⟩

theorem bitFlags_keeps (n : Fin 8) (v : Byte) (fl : Flags) : Flags.Keeps 0xE0 fl (bitFlags n v fl) :=
  ⟨by decide, nofun, nofun, nofun, fun _ => rfl⟩
theorem addHl16_keeps (a b : Word) (fl : Flags) : Flags.Keeps 0x70 fl (addHl16 a b fl).2 :=
  ⟨by decide, fun _ => rfl, nofun, nofun, nofun⟩

/-- CPL as a read-modify-write of `A` (R149). -/
def cpl8 (v : Byte) (old : Flags) : Byte × Flags := (v ^^^ 0xFF, { old with n := true, h := true })

/-- What SCF makes of the flags (R132). -/
def scfFlags (old : Flags) : Flags := { old with n := false, h := false, c := true }

/-- What CCF makes of the flags (R133). -/
def ccfFlags (old : Flags) : Flags := { old with n := false, h := false, c := !old.c }

theorem cpl8_keeps (v : Byte) (fl : Flags) : Flags.Keeps 0x60 fl (cpl8 v fl).2 := ⟨by decide, fun _ => rfl, nofun, nofun, fun _ => rfl⟩
theorem scfFlags_keeps (fl : Flags) : Flags.Keeps 0x70 fl (scfFlags fl) := ⟨by decide, fun _ => rfl, nofun, nofun, nofun⟩
theorem ccfFlags_keeps (fl : Flags) : Flags.Keeps 0x70 fl (ccfFlags fl) := ⟨by decide, fun _ => rfl, nofun, nofun, nofun⟩

/-! ### Every family of rows has a shape -/

theorem mkLd_means (x y : Loc) (h : x ≠ .indHl ∨ y ≠ .indHl) :
    Means (Instr.mkLd x y) (.load (.ofLoc x) (.ofLoc y) (Operand8.ofLoc_steps y)) where
  run := exec_mkLd x y h
  footprint := by
    rcases x with (_ | _ | _ | _ | _ | _ | _) | _ <;> rcases y with (_ | _ | _ | _ | _ | _ | _) | _
    case indHl.indHl => simp at h
    all_goals rfl
  stores _ := by
    rcases x with (_ | _ | _ | _ | _ | _ | _) | _ <;> rcases y with (_ | _ | _ | _ | _ | _ | _) | _
    case indHl.indHl => simp at h
    all_goals rfl

theorem mkAlu_means (k : Alu) (x : Loc) : Means (Instr.mkAlu k x) (.alu k (.ofLoc x)) where
  run := exec_mkAlu k x
  footprint := by cases k <;> rcases x with (_ | _ | _ | _ | _ | _ | _) | _ <;> rfl
  stores _ := by cases k <;> rcases x with (_ | _ | _ | _ | _ | _ | _) | _ <;> rfl

theorem mkAluImm_means (k : Alu) (d : Byte) : Means (Instr.mkAluImm k d) (.alu k (.imm d)) where
  run := exec_mkAluImm k d
  footprint := by cases k <;> rfl
  stores _ := by cases k <;> rfl

theorem mkInc_means (x : Loc) : Means (Instr.mkInc x) (.modify x inc8 0xE0 inc8_keeps) where
  run := exec_mkInc x
  footprint := by rcases x with (_ | _ | _ | _ | _ | _ | _) | _ <;> rfl
  stores _ := by rcases x with (_ | _ | _ | _ | _ | _ | _) | _ <;> rfl

theorem mkDec_means (x : Loc) : Means (Instr.mkDec x) (.modify x dec8 0xE0 dec8_keeps) where
  run := exec_mkDec x
  footprint := by rcases x with (_ | _ | _ | _ | _ | _ | _) | _ <;> rfl
  stores _ := by rcases x with (_ | _ | _ | _ | _ | _ | _) | _ <;> rfl

theorem mkLdImm_means (x : Loc) (d : Byte) : Means (Instr.mkLdImm x d) (.load (.ofLoc x) (.imm d) rfl) where
  run := exec_mkLdImm x d
  footprint := by rcases x with (_ | _ | _ | _ | _ | _ | _) | _ <;> rfl
  stores _ := by rcases x with (_ | _ | _ | _ | _ | _ | _) | _ <;> rfl

theorem mkLdRp_means (r : Rp) (d : Word) : Means (Instr.mkLdRp r d) (.pair r r fun _ => d) where
  run := exec_mkLdRp r d
  footprint := by cases r <;> rfl
  stores _ := by cases r <;> rfl

theorem mkAddHl_means (r : Rp) : Means (Instr.mkAddHl r) (.addHl r) where
  run := exec_mkAddHl r
  footprint := by cases r <;> rfl
  stores _ := by cases r <;> rfl

theorem mkIncRp_means (r : Rp) : Means (Instr.mkIncRp r) (.pair r r (· + 1)) where
  run := exec_mkIncRp r
  footprint := by cases r <;> rfl
  stores _ := by cases r <;> rfl

theorem mkDecRp_means (r : Rp) : Means (Instr.mkDecRp r) (.pair r r (· - 1)) where
  run := exec_mkDecRp r
  footprint := by cases r <;> rfl
  stores _ := by cases r <;> rfl

theorem mkPop_means (r : Rp2) : Means (Instr.mkPop r) (.pop r) where
  run := exec_mkPop r
  footprint := by cases r <;> rfl
  stores _ := by cases r <;> rfl

theorem mkPush_means (r : Rp2) : Means (Instr.mkPush r) (.push r) where
  run := exec_mkPush r
  footprint := by cases r <;> rfl
  stores _ := by cases r <;> rfl

theorem mkJrCc_means (cc : Cond) (e : Byte) : Means (Instr.mkJrCc cc e) (.cond cc (.jumpBy e)) where
  run := exec_mkJrCc cc e
  footprint := by cases cc <;> rfl
  stores _ := by cases cc <;> exact (ite_self []).symm

theorem mkRetCc_means (cc : Cond) : Means (Instr.mkRetCc cc) (.cond cc .ret) where
  run := exec_mkRetCc cc
  footprint := by cases cc <;> rfl
  stores _ := by cases cc <;> exact (ite_self []).symm

theorem mkJpCc_means (cc : Cond) (a : Word) : Means (Instr.mkJpCc cc a) (.cond cc (.jump a)) where
  run := exec_mkJpCc cc a
  footprint := by cases cc <;> rfl
  stores _ := by cases cc <;> exact (ite_self []).symm

theorem mkCallCc_means (cc : Cond) (a : Word) : Means (Instr.mkCallCc cc a) (.cond cc (.call a)) where
  run := exec_mkCallCc cc a
  footprint := by cases cc <;> rfl
  stores _ := by cases cc <;> rfl

theorem mkRst_means (y : Fin 8) : Means (Instr.mkRst y) (.call (BitVec.ofNat 16 (8 * y.val))) where
  run := exec_mkRst y
  footprint := by fin_cases y <;> rfl
  stores _ := by fin_cases y <;> rfl

theorem mkRot_means (k : Rot) (x : Loc) : Means (Instr.mkRot k x) 
    (.timed (.extendedCB (cbCost x)) (.modify x (rotResult k) 0xF0 fun _ _ => Flags.keeps_all _ _)) where
  run := exec_mkRot k x
  footprint := by cases k <;> rcases x with (_ | _ | _ | _ | _ | _ | _) | _ <;> rfl
  stores _ := by cases k <;> rcases x with (_ | _ | _ | _ | _ | _ | _) | _ <;> rfl

theorem mkBit_means (n : Fin 8) (x : Loc) : Means (Instr.mkBit n x) (.timed (.extendedCB (cbBitCost x)) (.bit n x)) where
  run := exec_mkBit n x
  footprint := by fin_cases n <;> rcases x with (_ | _ | _ | _ | _ | _ | _) | _ <;> rfl
  stores _ := by fin_cases n <;> rcases x with (_ | _ | _ | _ | _ | _ | _) | _ <;> rfl

theorem mkRes_means (n : Fin 8) (x : Loc) : Means (Instr.mkRes n x) (.timed (.extendedCB (cbCost x)) (.modifyNoFlags x (resBit n))) where
  run := exec_mkRes n x
  footprint := by fin_cases n <;> rcases x with (_ | _ | _ | _ | _ | _ | _) | _ <;> rfl
  stores _ := by fin_cases n <;> rcases x with (_ | _ | _ | _ | _ | _ | _) | _ <;> rfl

theorem mkSet_means (n : Fin 8) (x : Loc) : Means (Instr.mkSet n x) (.timed (.extendedCB (cbCost x)) (.modifyNoFlags x (setBit n))) where
  run := exec_mkSet n x
  footprint := by fin_cases n <;> rcases x with (_ | _ | _ | _ | _ | _ | _) | _ <;> rfl
  stores _ := by fin_cases n <;> rcases x with (_ | _ | _ | _ | _ | _ | _) | _ <;> rfl

/-- Every instruction but the byte 0xCB has a meaning of one of the shapes, which may change what the tables of Safety.lean say. -/
theorem exec_means {i : Instr} (h : i ≠ .prefixCb) : ∃ m, Means i m := by
  cases Instr.inTable h with
  | nop => exact ⟨.nop, {}⟩
  | ldIndA16Sp a => exact ⟨.storeSp a, {}⟩
  | stop => exact ⟨.stop, {}⟩
  | jrE8 e => exact ⟨.jumpBy e, {}⟩
  | jrCc cc e => exact ⟨_, mkJrCc_means cc e⟩
  | ldRp r d => exact ⟨_, mkLdRp_means r d⟩
  | addHl r => exact ⟨_, mkAddHl_means r⟩
  | ldIndBcA => exact ⟨.load .indBc (.reg .a) rfl, {}⟩
  | ldIndDeA => exact ⟨.load .indDe (.reg .a) rfl, {}⟩
  | ldIndHlIncA => exact ⟨.load .indHlInc (.reg .a) rfl, {}⟩
  | ldIndHlDecA => exact ⟨.load .indHlDec (.reg .a) rfl, {}⟩
  | ldAIndBc => exact ⟨.loadA .indBc, {}⟩
  | ldAIndDe => exact ⟨.loadA .indDe, {}⟩
  | ldAIndHlInc => exact ⟨.loadA .indHlInc, {}⟩
  | ldAIndHlDec => exact ⟨.loadA .indHlDec, {}⟩
  | incRp r => exact ⟨_, mkIncRp_means r⟩
  | decRp r => exact ⟨_, mkDecRp_means r⟩
  | inc x => exact ⟨_, mkInc_means x⟩
  | dec x => exact ⟨_, mkDec_means x⟩
  | ldImm x d => exact ⟨_, mkLdImm_means x d⟩
  | rlca => exact ⟨.modify (.reg .a) (rotAccResult .rlc) 0xF0 fun _ _ => Flags.keeps_all _ _, {}⟩
  | rrca => exact ⟨.modify (.reg .a) (rotAccResult .rrc) 0xF0 fun _ _ => Flags.keeps_all _ _, {}⟩
  | rla => exact ⟨.modify (.reg .a) (rotAccResult .rl) 0xF0 fun _ _ => Flags.keeps_all _ _, {}⟩
  | rra => exact ⟨.modify (.reg .a) (rotAccResult .rr) 0xF0 fun _ _ => Flags.keeps_all _ _, {}⟩
  | daa => exact ⟨.modify (.reg .a) daa 0xB0 daa_keeps, {}⟩
  | cpl => exact ⟨.modify (.reg .a) cpl8 0x60 cpl8_keeps, {}⟩
  | scf => exact ⟨.flags scfFlags 0x70 scfFlags_keeps, {}⟩
  | ccf => exact ⟨.flags ccfFlags 0x70 ccfFlags_keeps, {}⟩
  | ld x y =>
    by_cases hxy : x ≠ .indHl ∨ y ≠ .indHl
    · exact ⟨_, mkLd_means x y hxy⟩
    · obtain ⟨rfl, rfl⟩ : x = .indHl ∧ y = .indHl := by simpa using hxy
      exact ⟨.halt, {}⟩
  | alu k x => exact ⟨_, mkAlu_means k x⟩
  | retCc cc => exact ⟨_, mkRetCc_means cc⟩
  | ldhIndA8A o => exact ⟨.load (.zeroPageImm o) (.reg .a) rfl, {}⟩
  | addSpE8 e => exact ⟨.addSp e, {}⟩
  | ldhAIndA8 o => exact ⟨.loadA (.zeroPageImm o), {}⟩
  | ldHlSpE8 e => exact ⟨.ldHlSp e, {}⟩
  | pop r => exact ⟨_, mkPop_means r⟩
  | ret => exact ⟨.ret, {}⟩
  | reti => exact ⟨.reti, {}⟩
  | jpHl => exact ⟨.jumpHl, {}⟩
  | ldSpHl => exact ⟨.pair .sp .hl id, {}⟩
  | jpCc cc a => exact ⟨_, mkJpCc_means cc a⟩
  | ldIndCA => exact ⟨.load .zeroPageC (.reg .a) rfl, {}⟩
  | ldIndA16A a => exact ⟨.load (.indAddr a) (.reg .a) rfl, {}⟩
  | ldAIndC => exact ⟨.loadA .zeroPageC, {}⟩
  | ldAIndA16 a => exact ⟨.loadA (.indAddr a), {}⟩
  | jpA16 a => exact ⟨.jump a, {}⟩
  | di => exact ⟨.di, {}⟩
  | ei => exact ⟨.ei, {}⟩
  | callCc cc a => exact ⟨_, mkCallCc_means cc a⟩
  | push r => exact ⟨_, mkPush_means r⟩
  | callA16 a => exact ⟨.call a, {}⟩
  | aluImm k d => exact ⟨_, mkAluImm_means k d⟩
  | rst y => exact ⟨_, mkRst_means y⟩
  | illegalD3 => exact ⟨.unassigned 0xD3, {}⟩
  | illegalDB => exact ⟨.unassigned 0xDB, {}⟩
  | illegalDD => exact ⟨.unassigned 0xDD, {}⟩
  | illegalE3 => exact ⟨.unassigned 0xE3, {}⟩
  | illegalE4 => exact ⟨.unassigned 0xE4, {}⟩
  | illegalEB => exact ⟨.unassigned 0xEB, {}⟩
  | illegalEC => exact ⟨.unassigned 0xEC, {}⟩
  | illegalED => exact ⟨.unassigned 0xED, {}⟩
  | illegalF4 => exact ⟨.unassigned 0xF4, {}⟩
  | illegalFC => exact ⟨.unassigned 0xFC, {}⟩
  | illegalFD => exact ⟨.unassigned 0xFD, {}⟩
  | rot k x => exact ⟨_, mkRot_means k x⟩
  | bit n x => exact ⟨_, mkBit_means n x⟩
  | res n x => exact ⟨_, mkRes_means n x⟩
  | set n x => exact ⟨_, mkSet_means n x⟩

end Sys2Proof.Machine
end

section
/-! ### O56: every step keeps the invariant -/

namespace Sys2Proof.Machine

/-- The invariant speaks of `F`, `ei_pending`, the platform and memory alone. -/
theorem State.Wf.of_eq {s t : State} (hs : s.Wf) (hf : t.f = s.f := by rfl) (he : t.eiPending = s.eiPending := by rfl)
    (hp : t.platform = s.platform := by rfl) (hm : t.mem = s.mem := by rfl) : t.Wf where
  lowNibble := hf ▸ hs.lowNibble
  eiPending := by rw [he, hp]; exact hs.eiPending
  memory := hm ▸ hs.memory
  cells := hm ▸ hs.cells
  image := hp ▸ hs.image

/-- A new `F` keeps the invariant where its low nibble is zero (R12). -/
theorem State.Wf.set_f {s : State} (hs : s.Wf) {v : Byte} (hv : v &&& 0x0F = 0) : ({ s with f := v } : State).Wf :=
  ⟨hv, hs.eiPending, hs.memory, hs.cells, hs.image⟩

theorem State.Wf.setFlags {s : State} (hs : s.Wf) (fl : Flags) : (s.setFlags fl).Wf := hs.set_f (Flags.toByte_low fl)

theorem State.Wf.setReg8 {s : State} (hs : s.Wf) (r : Reg8) (v : Byte) : (s.setReg8 r v).Wf := by cases r <;> exact hs.of_eq

theorem State.Wf.setRp {s : State} (hs : s.Wf) (r : Rp) (v : Word) : (s.setRp r v).Wf := by cases r <;> exact hs.of_eq

/-- A pair written by POP keeps the invariant: POP AF masks the low nibble (R236). -/
theorem State.Wf.setRp2 {s : State} (hs : s.Wf) (r : Rp2) (v : Word) : (s.setRp2 r v).Wf := by
  cases r
  case af =>
    have hlow : (loByte v &&& 0xF0) &&& 0x0F = 0 := by rw [BitVec.and_assoc]; exact BitVec.and_zero
    exact (hs.of_eq (t := { s with a := hiByte v })).set_f hlow
  all_goals exact hs.of_eq

theorem State.Wf.applyAlu {s : State} (hs : s.Wf) (k : Alu) (v : Byte) : (s.applyAlu k v).Wf :=
  (hs.of_eq (t := { s with a := (s.applyAlu k v).a })).set_f (Flags.toByte_low (aluResult k s.a v s.flags.c).2)

theorem readOperand8_wf {x : Operand8} {s t : State} {v : Byte} (h : readOperand8 x s = .next (v, t)) (hs : s.Wf) : t.Wf := by
  rw [readOperand8_next h]
  exact hs.of_eq

theorem writeOperand8_wf {x : Operand8} {v : Byte} {s t : State} (h : writeOperand8 x v s = .next t) (hs : s.Wf) : t.Wf := by
  cases x
  case reg r => cases h; exact hs.setReg8 r v
  case imm => exact absurd h (raise_ne_next _ _ _)
  case indHlInc | indHlDec =>
    obtain ⟨u, hu, h⟩ := andThen_eq_next.1 h
    cases h
    exact (memWrite_wf hu hs).of_eq
  all_goals exact memWrite_wf h hs

theorem Popped.wf {s u : State} {lo hi : Byte} (h : Popped lo hi s u) (hs : s.Wf) : u.Wf := by
  rw [h.frame]
  exact hs.of_eq

theorem memWrite16_wf {a v : Word} {s t : State} (h : memWrite16 a v s = .next t) (hs : s.Wf) : t.Wf := by
  obtain ⟨u, hu, ht⟩ := andThen_eq_next.1 h
  exact memWrite_wf ht (memWrite_wf hu hs)

/-- EI keeps the invariant: it sets `ei_pending` only where `EI_DELAYED` (R264, R28). -/
theorem execEi_wf {s t : State} (h : execEi s = .next t) (hs : s.Wf) : t.Wf := by
  cases h
  split
  · exact ⟨hs.lowNibble, fun hd => absurd (‹s.platform.eiDelayed = true›.symm.trans hd) nofun, hs.memory, hs.cells, hs.image⟩
  · exact hs.of_eq

/-- Every shape keeps the invariant. -/
theorem Meaning.run_wf {m : Meaning} : ∀ {s t : State}, m.run s = .next t → s.Wf → t.Wf := by
  induction m with
  | nop => intro s t h hs; cases h; exact hs
  | halt | jump | jumpHl | jumpBy => intro s t h hs; cases h; exact hs.of_eq
  | di => intro s t h hs; cases h; exact ⟨hs.lowNibble, fun _ => rfl, hs.memory, hs.cells, hs.image⟩
  | ei => exact execEi_wf
  | stop | unassigned => intro s t h; exact absurd h (raise_ne_next _ _ _)
  | load dst src =>
    intro s t h hs
    obtain ⟨v, u, hr, hw⟩ := load8_next h
    exact writeOperand8_wf hw (readOperand8_wf hr hs)
  | loadA src =>
    intro s t h hs
    obtain ⟨v, u, hr, hw⟩ := load8_next h
    exact writeOperand8_wf hw (readOperand8_wf hr hs)
  | alu k src =>
    intro s t h hs
    obtain ⟨v, u, hr, rfl⟩ := alu8_next h
    exact (readOperand8_wf hr hs).applyAlu k v
  | modify x g =>
    intro s t h hs
    obtain ⟨v, u, w, hr, hw, rfl⟩ := modify8_next h
    exact (writeOperand8_wf hw (readOperand8_wf hr hs)).setFlags _
  | modifyNoFlags x g =>
    intro s t h hs
    obtain ⟨v, u, hr, hw⟩ := modify8NoFlags_next h
    exact writeOperand8_wf hw (readOperand8_wf hr hs)
  | bit n x =>
    intro s t h hs
    obtain ⟨⟨v, u⟩, hr, h⟩ := andThen_eq_next.1 h
    cases h
    exact (readOperand8_wf hr hs).setFlags _
  | flags g => intro s t h hs; cases h; exact hs.setFlags _
  | pair r => intro s t h hs; cases h; exact hs.setRp r _
  | addHl => intro s t h hs; cases h; exact (hs.of_eq (t := s.setHl _)).setFlags _
  | addSp e => intro s t h hs; cases h; exact (hs.of_eq (t := { s with sp := (addsp s.sp e).1 })).setFlags _
  | ldHlSp => intro s t h hs; cases h; exact (hs.of_eq (t := s.setHl _)).setFlags _
  | storeSp => exact memWrite16_wf
  | push => intro s t h hs; exact (push16_next.1 h).wf hs
  | pop r =>
    intro s t h hs
    obtain ⟨lo, hi, u, hp, rfl⟩ := popPair_next h
    exact (hp.wf hs).setRp2 r _
  | call =>
    intro s t h hs
    obtain ⟨u, hp, rfl⟩ := callTo_next h
    exact (hp.wf hs).of_eq
  | ret =>
    intro s t h hs
    obtain ⟨lo, hi, u, hp, rfl⟩ := returnTo_next h
    exact (hp.wf hs).of_eq
  | reti =>
    intro s t h hs
    obtain ⟨lo, hi, u, hp, rfl⟩ := returnFromInterrupt_next h
    exact (hp.wf hs).of_eq
  | timed t m ih =>
    intro s t h hs
    obtain ⟨u, hu, rfl⟩ := thenTiming_next h
    exact (ih hu hs).of_eq
  | cond cc m ih =>
    intro s t h hs
    obtain ⟨-, u, hu, rfl⟩ | ⟨-, rfl⟩ := whenCond_next h
    · exact (ih hu hs).of_eq
    · exact hs

/-- A fetch keeps the invariant. -/
theorem fetch8_wf {s t : State} {v : Byte} (h : fetch8 s = .next (v, t)) (hs : s.Wf) : t.Wf := by
  rw [fetch8_next h]
  exact hs.of_eq

/-- Every instruction keeps the invariant. -/
theorem exec_wf {i : Instr} {s t : State} (h : exec i s = .next t) (hs : s.Wf) : t.Wf := by
  have whole : ∀ {j : Instr} {u : State}, j ≠ .prefixCb → exec j u = .next t → u.Wf → t.Wf := by
    intro j u hj hu
    obtain ⟨m, hm⟩ := exec_means hj
    exact Meaning.run_wf (hm.run u ▸ hu)
  by_cases hi : i = .prefixCb
  · rw [hi, exec_prefixCb] at h
    obtain ⟨⟨op2, u⟩, hf, he⟩ := andThen_eq_next.1 h
    exact whole (prefixed_ne_prefixCb op2) he (fetch8_wf hf hs)
  · exact whole hi h hs

theorem State.Wf.raiseEnvironment {s : State} (hs : s.Wf) : s.raiseEnvironment.Wf := by
  rw [State.raiseEnvironment_frame]
  exact hs.of_eq

theorem State.Wf.wake {s : State} (hs : s.Wf) : s.wake.Wf := by
  unfold State.wake
  split
  · exact hs
  · exact hs.of_eq

/-- The transfer of `ei_pending` into IME keeps the invariant: it clears `ei_pending` (R264). -/
theorem State.Wf.applyPendingEi {s : State} (hs : s.Wf) : s.applyPendingEi.Wf := by
  unfold State.applyPendingEi
  split
  · exact ⟨hs.lowNibble, fun _ => rfl, hs.memory, hs.cells, hs.image⟩
  · exact hs

theorem dispatchInterrupt_wf {n : Fin 5} {s t : State} (h : dispatchInterrupt n s = .next t) (hs : s.Wf) : t.Wf := by
  obtain ⟨u, hp, rfl⟩ := dispatchInterrupt_next h
  have hu : u.Wf := hp.wf ⟨hs.lowNibble, fun _ => rfl, hs.memory, hs.cells, hs.image⟩
  exact hu.of_eq

theorem fetchInstr_wf {s t : State} {i : Instr} (h : fetchInstr s = .next (i, t)) (hs : s.Wf) : t.Wf := by
  rw [fetchInstr_next h]
  exact hs.of_eq

/-- Every cycle keeps the invariant: a dispatch, an idle step, or one instruction (R270). -/
theorem cycle_wf {s t : State} (h : cycle s = .next t) (hs : s.Wf) : t.Wf := by
  obtain ⟨n, -, hd⟩ | ⟨-, -, rfl⟩ | ⟨-, -, i, u, hf, he⟩ := cycle_next h
  · exact dispatchInterrupt_wf hd hs.wake
  · exact hs.wake.of_eq
  · exact exec_wf he ((fetchInstr_wf hf hs.wake.applyPendingEi).of_eq)

/-- Settles O56: the environment, the wake and the fetch keep the invariant, and so does every shape a meaning can have. -/
theorem stepKeepsWf : Obligations.StepKeepsWf := by
  intro s t hs h
  exact cycle_wf (step_next_running h).2 hs.raiseEnvironment

end Sys2Proof.Machine
end

section
/-! ### O60: no step reads the latches

Two runs are compared: from `s`, and from `s.withLatches x y`. Every operation takes the pair to a pair of the same kind. -/

namespace Sys2Proof.Machine

/-- The state with other latches (R26, R27). -/
def State.withLatches (s : State) (x y : Byte) : State := { s with dmaLatch := x, svbkLatch := y }

/-- The two states differ in the latches alone. -/
def LatchEq (s t : State) : Prop := ∃ x y, t = s.withLatches x y

/-- A value and a state: the same value, the states differing in the latches alone. -/
def ValueLatchEq {α : Type} (p q : α × State) : Prop := p.1 = q.1 ∧ LatchEq p.2 q.2

/-- Two answers are of the same outcome, with related results, or with the same Fatal and states that differ in the latches alone. -/
inductive SameOutcome {α : Type} (R : α → α → Prop) : Res α → Res α → Prop where
  | next {a b : α} (h : R a b) : SameOutcome R (.next a) (.next b)
  | fault {e e' : Fault} (hc : e.cause = e'.cause) (hl : LatchEq e.left e'.left) : SameOutcome R (.fault e) (.fault e')
  | refused (p : Refusal) : SameOutcome R (.refused p) (.refused p)

/-- What the operation answers does not depend on the latches. -/
def LatchBlind (f : State → Res State) : Prop := ∀ s x y, SameOutcome LatchEq (f s) (f (s.withLatches x y))

/-- What the operation answers, with the value, does not depend on the latches. -/
def ValueLatchBlind {α : Type} (f : State → Res (α × State)) : Prop :=
  ∀ s x y, SameOutcome ValueLatchEq (f s) (f (s.withLatches x y))

/-- Lines in order are of the same outcome where each is. -/
theorem SameOutcome.andThen {α β : Type} {R : α → α → Prop} {Q : β → β → Prop} {r r' : Res α} {k k' : α → Res β}
    (h : SameOutcome R r r') (hk : ∀ a b, R a b → SameOutcome Q (k a) (k' b)) :
    SameOutcome Q (Machine.andThen r k) (Machine.andThen r' k') := by
  cases h with
  | next h => exact hk _ _ h
  | fault hc hl => exact .fault hc hl
  | refused p => exact .refused p

/-- A state, then a line that does not depend on the latches. -/
theorem SameOutcome.andThen_state {β : Type} {Q : β → β → Prop} {r r' : Res State} {k : State → Res β}
    (h : SameOutcome LatchEq r r') (hk : ∀ s x y, SameOutcome Q (k s) (k (s.withLatches x y))) :
    SameOutcome Q (Machine.andThen r k) (Machine.andThen r' k) :=
  h.andThen fun s _ ⟨x, y, ht⟩ => ht ▸ hk s x y

/-- A value and a state, then a line that does not depend on the latches. -/
theorem SameOutcome.andThen_value {α β : Type} {Q : β → β → Prop} {r r' : Res (α × State)} {k : α × State → Res β}
    (h : SameOutcome ValueLatchEq r r') (hk : ∀ v s x y, SameOutcome Q (k (v, s)) (k (v, s.withLatches x y))) :
    SameOutcome Q (Machine.andThen r k) (Machine.andThen r' k) :=
  h.andThen fun (v, s) (_, _) ⟨hv, x, y, ht⟩ => by
    cases hv
    cases ht
    exact hk v s x y

theorem raise_sameOutcome {α : Type} {R : α → α → Prop} (c : Fatal) (s : State) (x y : Byte) :
    SameOutcome R (raise c s) (raise c (s.withLatches x y)) :=
  .fault (by simp) (by simpa using ⟨x, y, rfl⟩)

/-! #### Accesses -/

theorem handlerRead_blind (g : Region) (addr : Word) : ValueLatchBlind (handlerRead g addr) := by
  intro s x y
  have hh : (s.withLatches x y).hasHandler g = s.hasHandler g := rfl
  unfold handlerRead
  rw [hh]
  split
  · exact .next ⟨rfl, x, y, rfl⟩
  · exact raise_sameOutcome _ s x y

/-- The answer of a read is a function of the address, RAM, the interrupt registers, the platform, the calls and the draws. -/
theorem memRead_blind (addr : Word) : ValueLatchBlind (memRead addr) := by
  intro s x y
  unfold memRead
  split
  case h_2 g _ => exact handlerRead_blind g addr s x y
  case h_7 => exact raise_sameOutcome _ s x y
  all_goals exact .next ⟨rfl, x, y, rfl⟩

theorem handlerWrite_blind (g : Region) (addr : Word) (v : Byte) : LatchBlind (handlerWrite g addr v) := by
  intro s x y
  have hh : (s.withLatches x y).hasHandler g = s.hasHandler g := rfl
  unfold handlerWrite
  rw [hh]
  split
  · exact .next ⟨x, y, rfl⟩
  · exact raise_sameOutcome _ s x y

/-- A capture overwrites a latch and reads none (R47, R49). -/
theorem State.captureWrite_latchEq (s : State) (g : Region) (v x y : Byte) :
    LatchEq (s.captureWrite g v) ((s.withLatches x y).captureWrite g v) := by
  cases g
  case oamDma => exact ⟨v, y, rfl⟩
  case svbk => exact ⟨x, v, rfl⟩
  all_goals exact ⟨x, y, rfl⟩

theorem memWrite_blind (addr : Word) (v : Byte) : LatchBlind (memWrite addr v) := by
  intro s x y
  unfold memWrite
  split
  case h_2 g _ =>
    obtain ⟨x', y', hc⟩ := s.captureWrite_latchEq g v x y
    rw [hc]
    exact handlerWrite_blind g addr v _ x' y'
  case h_7 => exact raise_sameOutcome _ s x y
  all_goals exact .next ⟨x, y, rfl⟩

theorem memWrite16_blind (addr v : Word) : LatchBlind (memWrite16 addr v) := fun s x y =>
  (memWrite_blind addr _ s x y).andThen_state (memWrite_blind _ _)

theorem fetch8_blind : ValueLatchBlind fetch8 := fun s x y =>
  (memRead_blind s.pc s x y).andThen_value fun _ _ x y => .next ⟨rfl, x, y, rfl⟩

theorem fetch16_blind : ValueLatchBlind fetch16 := fun s x y =>
  (fetch8_blind s x y).andThen_value fun _ s x y =>
  (fetch8_blind s x y).andThen_value fun _ _ x y => .next ⟨rfl, x, y, rfl⟩

theorem pushByte_blind (v : Byte) : LatchBlind (pushByte v) := fun s x y =>
  memWrite_blind (s.sp - 1) v { s with sp := s.sp - 1 } x y

theorem push16_blind (v : Word) : LatchBlind (push16 v) := fun s x y =>
  (pushByte_blind _ s x y).andThen_state (pushByte_blind _)

theorem popByte_blind : ValueLatchBlind popByte := fun s x y =>
  (memRead_blind s.sp s x y).andThen_value fun _ _ x y => .next ⟨rfl, x, y, rfl⟩

theorem pop16_blind : ValueLatchBlind pop16 := fun s x y =>
  (popByte_blind s x y).andThen_value fun _ s x y =>
  (popByte_blind s x y).andThen_value fun _ _ x y => .next ⟨rfl, x, y, rfl⟩

/-! #### Instructions -/

theorem readOperand8_blind (o : Operand8) : ValueLatchBlind (readOperand8 o) := by
  intro s x y
  cases o
  case reg r => cases r <;> exact .next ⟨rfl, x, y, rfl⟩
  case imm => exact .next ⟨rfl, x, y, rfl⟩
  case indHlInc | indHlDec => exact (memRead_blind s.hl s x y).andThen_value fun _ _ x y => .next ⟨rfl, x, y, rfl⟩
  all_goals exact memRead_blind _ s x y

theorem writeOperand8_blind (o : Operand8) (v : Byte) : LatchBlind (writeOperand8 o v) := by
  intro s x y
  cases o
  case reg r => cases r <;> exact .next ⟨x, y, rfl⟩
  case imm => exact raise_sameOutcome _ s x y
  case indHlInc | indHlDec => exact (memWrite_blind s.hl v s x y).andThen_state fun _ x y => .next ⟨x, y, rfl⟩
  all_goals exact memWrite_blind _ v s x y

theorem execEi_blind : LatchBlind execEi := by
  intro s x y
  have hd : (s.withLatches x y).platform.eiDelayed = s.platform.eiDelayed := rfl
  unfold execEi
  rw [hd]
  split
  · exact .next ⟨x, y, rfl⟩
  · exact .next ⟨x, y, rfl⟩

theorem thenTiming_blind {f : State → Res State} (hf : LatchBlind f) (t : Timing) : LatchBlind fun s => thenTiming t (f s) := fun s x y =>
  (hf s x y).andThen_state fun _ x y => .next ⟨x, y, rfl⟩

theorem whenCond_blind {f : State → Res State} (hf : LatchBlind f) (cc : Cond) : LatchBlind (whenCond cc f) := by
  intro s x y
  have hc : (s.withLatches x y).cond cc = s.cond cc := rfl
  unfold whenCond
  rw [hc]
  split
  · exact thenTiming_blind hf _ s x y
  · exact .next ⟨x, y, rfl⟩

/-- No shape reads the latches. -/
theorem Meaning.run_blind (m : Meaning) : LatchBlind m.run := by
  induction m with
  | nop | halt | di | flags | addHl | addSp | ldHlSp | jump | jumpHl | jumpBy => exact fun s x y => .next ⟨x, y, rfl⟩
  | ei => exact execEi_blind
  | stop | unassigned => exact fun s x y => raise_sameOutcome _ s x y
  | load dst src => exact fun s x y => (readOperand8_blind src s x y).andThen_value fun v => writeOperand8_blind dst v
  | loadA src => exact fun s x y => (readOperand8_blind src s x y).andThen_value fun v => writeOperand8_blind (.reg .a) v
  | alu k src => exact fun s x y => (readOperand8_blind src s x y).andThen_value fun _ _ x y => .next ⟨x, y, rfl⟩
  | modify o g =>
    exact fun s x y => (readOperand8_blind (.ofLoc o) s x y).andThen_value fun v s x y =>
      (writeOperand8_blind (.ofLoc o) _ s x y).andThen_state fun _ x y => .next ⟨x, y, rfl⟩
  | modifyNoFlags o g =>
    exact fun s x y => (readOperand8_blind (.ofLoc o) s x y).andThen_value fun v => writeOperand8_blind (.ofLoc o) (g v)
  | bit n o => exact fun s x y => (readOperand8_blind (.ofLoc o) s x y).andThen_value fun _ _ x y => .next ⟨x, y, rfl⟩
  | pair r q => cases r <;> cases q <;> exact fun s x y => .next ⟨x, y, rfl⟩
  | storeSp a => exact fun s => memWrite16_blind a s.sp s
  | push r => cases r <;> exact fun s => push16_blind _ s
  | pop r =>
    cases r <;> exact fun s x y => (pop16_blind s x y).andThen_value fun _ _ x y => .next ⟨x, y, rfl⟩
  | call a => exact fun s x y => (push16_blind s.pc s x y).andThen_state fun _ x y => .next ⟨x, y, rfl⟩
  | ret | reti => exact fun s x y => (pop16_blind s x y).andThen_value fun _ _ x y => .next ⟨x, y, rfl⟩
  | timed t m ih => exact thenTiming_blind ih t
  | cond cc m ih => exact whenCond_blind ih cc

/-- No instruction reads the latches. -/
theorem exec_blind (i : Instr) : LatchBlind (exec i) := by
  have whole : ∀ {j : Instr}, j ≠ .prefixCb → LatchBlind (exec j) := by
    intro j hj
    obtain ⟨m, hm⟩ := exec_means hj
    rw [funext hm.run]
    exact m.run_blind
  by_cases hi : i = .prefixCb
  · rw [hi, funext exec_prefixCb]
    exact fun s x y => (fetch8_blind s x y).andThen_value fun op2 => whole (prefixed_ne_prefixCb op2)
  · exact whole hi

/-! #### The step -/

theorem fetchInstr_blind : ValueLatchBlind fetchInstr := fun s x y =>
  (fetch8_blind s x y).andThen_value fun op s x y => by
    dsimp only
    split
    · exact .next ⟨rfl, x, y, rfl⟩
    · exact (fetch8_blind s x y).andThen_value fun _ _ x y => .next ⟨rfl, x, y, rfl⟩
    · exact (fetch16_blind s x y).andThen_value fun _ _ x y => .next ⟨rfl, x, y, rfl⟩
    · exact (fetch8_blind s x y).andThen_value fun _ _ x y => .next ⟨rfl, x, y, rfl⟩

theorem runInstr_blind : LatchBlind runInstr := fun s x y =>
  (fetchInstr_blind s x y).andThen_value fun i s => exec_blind i (s.setTiming .default)

theorem dispatchInterrupt_blind (n : Fin 5) : LatchBlind (dispatchInterrupt n) := fun s x y =>
  (push16_blind s.pc _ x y).andThen_state fun _ x y => .next ⟨x, y, rfl⟩

theorem State.wake_withLatches (s : State) (x y : Byte) : (s.withLatches x y).wake = s.wake.withLatches x y := by
  unfold State.wake
  have hp : (s.withLatches x y).pend = s.pend := rfl
  rw [hp]
  split <;> rfl

theorem State.applyPendingEi_withLatches (s : State) (x y : Byte) :
    (s.withLatches x y).applyPendingEi = s.applyPendingEi.withLatches x y := by
  have he : (s.withLatches x y).eiPending = s.eiPending := rfl
  unfold State.applyPendingEi
  rw [he]
  split <;> rfl

theorem State.raiseEnvironment_withLatches (s : State) (x y : Byte) :
    (s.withLatches x y).raiseEnvironment = s.raiseEnvironment.withLatches x y := by
  have he : (s.withLatches x y).envIrq = s.envIrq := rfl
  unfold State.raiseEnvironment
  rw [he]
  split <;> rfl

theorem cycle_blind : LatchBlind cycle := by
  intro s x y
  have hd : (s.wake.withLatches x y).toDispatch = s.wake.toDispatch := rfl
  have hh : (s.wake.withLatches x y).halted = s.wake.halted := rfl
  unfold cycle
  dsimp only
  rw [State.wake_withLatches, hd, hh]
  split
  · exact dispatchInterrupt_blind _ s.wake x y
  · split
    · exact .next ⟨x, y, rfl⟩
    · rw [State.applyPendingEi_withLatches]
      exact runInstr_blind _ x y

theorem step_blind : LatchBlind step := by
  intro s x y
  have hs : (s.withLatches x y).status = s.status := rfl
  unfold step stepOf
  rw [hs]
  split
  · rw [State.raiseEnvironment_withLatches]
    exact cycle_blind _ x y
  · exact .refused _

/-- Settles O60: the step is latch-blind, operation by operation. -/
theorem latchesNeverRead : Obligations.LatchesNeverRead := by
  intro s x y
  have h : SameOutcome LatchEq (step s) (step { s with dmaLatch := x, svbkLatch := y }) := step_blind s x y
  generalize step s = r, step { s with dmaLatch := x, svbkLatch := y } = r' at h
  cases h with
  | next h =>
    obtain ⟨x', y', rfl⟩ := h
    rfl
  | fault hc hl =>
    obtain ⟨x', y', hl⟩ := hl
    refine ⟨hc, ?_⟩
    rw [hl]
    rfl
  | refused p => rfl

end Sys2Proof.Machine
end

section
/-! ### O58, O59: what an instruction leaves unchanged -/

namespace Sys2Proof.Machine

/-- From `s` to `t` nothing changes but what the footprint names and the bytes at the listed addresses. -/
structure Frames (fp : Footprint) (as : List Word) (s t : State) : Prop where
  reg8 : ∀ r, r ∉ fp.regs → t.reg8 r = s.reg8 r := by exact fun _ _ => rfl
  sp : fp.sp = false → t.sp = s.sp := by exact fun _ => rfl
  flag : ∀ j, 4 ≤ j → j < 8 → fp.flags.getLsbD j = false → t.f.getLsbD j = s.f.getLsbD j := by exact fun _ _ _ _ => rfl
  f : fp.flags = 0x00 → t.f = s.f := by exact fun _ => rfl
  pc : fp.pc = false → t.pc = s.pc := by exact fun _ => rfl
  ime : fp.ime = false → t.ime = s.ime := by exact fun _ => rfl
  eiPending : fp.eiPending = false → t.eiPending = s.eiPending := by exact fun _ => rfl
  halted : fp.halted = false → t.halted = s.halted := by exact fun _ => rfl
  dmaLatch : 0xFF46 ∉ as → t.dmaLatch = s.dmaLatch := by exact fun _ => rfl
  svbkLatch : 0xFF70 ∉ as → t.svbkLatch = s.svbkLatch := by exact fun _ => rfl
  bytes : OnlyBytesChange s t as := by exact fun _ _ => rfl
  status : t.status = s.status := by rfl
  platform : t.platform = s.platform := by rfl
  envIrq : t.envIrq = s.envIrq := by rfl

variable {fp : Footprint} {as : List Word} {s t u : State}

theorem Frames.refl : Frames fp as s s := {}

theorem Frames.trans (h₁ : Frames fp as s u) (h₂ : Frames fp as u t) : Frames fp as s t where
  reg8 r hr := (h₂.reg8 r hr).trans (h₁.reg8 r hr)
  sp h := (h₂.sp h).trans (h₁.sp h)
  flag j h4 h8 hj := (h₂.flag j h4 h8 hj).trans (h₁.flag j h4 h8 hj)
  f h := (h₂.f h).trans (h₁.f h)
  pc h := (h₂.pc h).trans (h₁.pc h)
  ime h := (h₂.ime h).trans (h₁.ime h)
  eiPending h := (h₂.eiPending h).trans (h₁.eiPending h)
  halted h := (h₂.halted h).trans (h₁.halted h)
  dmaLatch h := (h₂.dmaLatch h).trans (h₁.dmaLatch h)
  svbkLatch h := (h₂.svbkLatch h).trans (h₁.svbkLatch h)
  bytes b hb := (h₂.bytes b hb).trans (h₁.bytes b hb)
  status := h₂.status.trans h₁.status
  platform := h₂.platform.trans h₁.platform
  envIrq := h₂.envIrq.trans h₁.envIrq

/-! #### The updates of the state -/

theorem Frames.setSp (h : fp.sp = true) (v : Word) : Frames fp as s { s with sp := v } where
  sp hf := absurd (h.symm.trans hf) nofun

theorem Frames.setPc (h : fp.pc = true) (v : Word) : Frames fp as s { s with pc := v } where
  pc hf := absurd (h.symm.trans hf) nofun

theorem Frames.setReport (v : Report) : Frames fp as s { s with report := v } := {}

theorem Frames.setReg8 {r : Reg8} (h : r ∈ fp.regs) (v : Byte) : Frames fp as s (s.setReg8 r v) := by
  have hreg : ∀ q, q ∉ fp.regs → (s.setReg8 r v).reg8 q = s.reg8 q := by
    intro q hq
    rw [State.reg8_setReg8, if_neg]
    rintro rfl
    exact hq h
  cases r <;> exact { reg8 := hreg }

theorem Frames.setTwo {p q : Reg8} (hp : p ∈ fp.regs) (hq : q ∈ fp.regs) (v w : Byte) :
    Frames fp as s ((s.setReg8 p v).setReg8 q w) :=
  (Frames.setReg8 hp v).trans (Frames.setReg8 hq w)

/-- A pair is the two registers that are its halves, or `SP` (R13, R84). -/
theorem Frames.setRp {r : Rp} (h : ∀ q ∈ rpRegs r, q ∈ fp.regs) (hsp : r = .sp → fp.sp = true) (v : Word) :
    Frames fp as s (s.setRp r v) := by
  cases r
  case bc => exact Frames.setTwo (h .b (by simp [rpRegs])) (h .c (by simp [rpRegs])) (hiByte v) (loByte v)
  case de => exact Frames.setTwo (h .d (by simp [rpRegs])) (h .e (by simp [rpRegs])) (hiByte v) (loByte v)
  case hl => exact Frames.setTwo (h .h (by simp [rpRegs])) (h .l (by simp [rpRegs])) (hiByte v) (loByte v)
  case sp => exact Frames.setSp (hsp rfl) v

/-- The bits of the flag byte are the flags (R12). -/
theorem Flags.toByte_getLsbD (fl : Flags) :
    fl.toByte.getLsbD 7 = fl.z ∧ fl.toByte.getLsbD 6 = fl.n ∧ fl.toByte.getLsbD 5 = fl.h ∧ fl.toByte.getLsbD 4 = fl.c := by
  have h := State.flags_setFlags State.reset fl
  exact ⟨congrArg Flags.z h, congrArg Flags.n h, congrArg Flags.h h, congrArg Flags.c h⟩

/-- A new `F` changes the flags of the mask alone. -/
theorem Frames.setFlags {fl : Flags} (h : Flags.Keeps fp.flags s.flags fl) : Frames fp as s (s.setFlags fl) where
  flag j h4 h8 hj := by
    obtain ⟨hz, hn, hh, hc⟩ := fl.toByte_getLsbD
    obtain rfl | rfl | rfl | rfl : j = 4 ∨ j = 5 ∨ j = 6 ∨ j = 7 := by omega
    · exact hc.trans (h.c hj)
    · exact hh.trans (h.h hj)
    · exact hn.trans (h.n hj)
    · exact hz.trans (h.z hj)
  f hf := absurd hf h.mask

/-- A mask of all four flags allows any new `F`. -/
theorem Frames.setF (h : fp.flags = 0xF0) (v : Byte) : Frames fp as s { s with f := v } where
  flag j h4 h8 hj := by
    rw [h] at hj
    obtain rfl | rfl | rfl | rfl : j = 4 ∨ j = 5 ∨ j = 6 ∨ j = 7 := by omega
    all_goals cases hj
  f hf := absurd (h.symm.trans hf) (by decide)

theorem Frames.setAf (ha : .a ∈ fp.regs) (hf : fp.flags = 0xF0) (v : Word) : Frames fp as s (s.setAf v) :=
  (Frames.setReg8 (r := .a) ha (hiByte v)).trans (Frames.setF hf (loByte v &&& 0xF0))

/-- An operation on `A` writes `F`, and `A` unless it is CP (R124). -/
theorem Frames.applyAlu {k : Alu} (ha : aluWritesA k = true → .a ∈ fp.regs) (hf : fp.flags = 0xF0) (v : Byte) :
    Frames fp as s (s.applyAlu k v) := by
  have hA : Frames fp as s { s with a := if aluWritesA k then (aluResult k s.a v s.flags.c).1 else s.a } := by
    split
    · exact Frames.setReg8 (r := .a) (ha ‹_›) _
    · exact .refl
  exact hA.trans (Frames.setF hf _)

/-! #### Accesses -/

theorem memRead_frames {addr : Word} {v : Byte} (h : memRead addr s = .next (v, t)) : Frames fp as s t := by
  rw [memRead_next h]
  exact {}

/-- Where the router finds what only some addresses have: the three ranges of RAM with the cell of an address in each (R29, R30, R44),
and the rows of a single address (R46 to R52). -/
def Route.At (r : Route) (n : Nat) : Prop :=
  match r with
  | .ram k => (0xC000 ≤ n ∧ n ≤ 0xDFFF ∧ k = n) ∨ (0xE000 ≤ n ∧ n ≤ 0xFDFF ∧ k = n - 0x2000) ∨ (0xFF80 ≤ n ∧ n ≤ 0xFFFE ∧ k = n)
  | .collaborator .oamDma => n = 0xFF46
  | .collaborator .svbk => n = 0xFF70
  | .interruptFlags => n = 0xFF0F
  | .interruptEnable => n = 0xFFFF
  | .speedSwitch => n = 0xFF4D
  | .tolerated => n = 0xFF7F
  | .collaborator _ | .outOfRange => True

/-- What the router finds at an address is found there (R41, R54): row by row of the dispatch table. -/
theorem route_at (addr : Word) : (route addr).At addr.toNat := by
  generalize h : route addr = r
  have hlt : addr.toNat < 65536 := addr.isLt
  dsimp only [route] at h
  generalize addr.toNat = n at h hlt ⊢
  iterate 26
    rcases ite_eq_cases h with ⟨_, h'⟩ | ⟨_, h'⟩
    · subst h'
      dsimp only [Route.At] <;> omega
    clear h
    rename' h' => h
  subst h
  show n = 0xFFFF
  omega

/-- A write reaches a latch at its own address alone (R26, R27). -/
theorem memWrite_latches {addr : Word} {v : Byte} (h : memWrite addr v s = .next t) :
    (addr ≠ 0xFF46 → t.dmaLatch = s.dmaLatch) ∧ (addr ≠ 0xFF70 → t.svbkLatch = s.svbkLatch) := by
  unfold memWrite at h
  split at h
  case h_2 g hg =>
    have hat := route_at addr
    rw [hg] at hat
    rw [handlerWrite_next h]
    cases g
    case oamDma => exact ⟨fun hne => (hne (BitVec.eq_of_toNat_eq hat)).elim, fun _ => rfl⟩
    case svbk => exact ⟨fun _ => rfl, fun hne => (hne (BitVec.eq_of_toNat_eq hat)).elim⟩
    all_goals exact ⟨fun _ => rfl, fun _ => rfl⟩
  case h_7 => exact absurd h (raise_ne_next _ _ _)
  all_goals (cases h; exact ⟨fun _ => rfl, fun _ => rfl⟩)

/-- A core-backed byte depends on RAM and the interrupt registers alone. -/
theorem State.coreByte_congr (hm : t.mem = s.mem) (hi : t.ifr = s.ifr) (he : t.ie = s.ie) (b : Word) : t.coreByte b = s.coreByte b := by
  simp only [State.coreByte, State.ram, hm, hi, he]

/-- A write changes no byte but the one its address is routed to (R42, R44). -/
theorem memWrite_bytes {addr : Word} {v : Byte} (h : memWrite addr v s = .next t) {b : Word} (hb : route addr ≠ route b) :
    t.coreByte b = s.coreByte b := by
  unfold memWrite at h
  split at h
  case h_1 k hk =>
    cases h
    exact State.coreByte_ram_write s k v b fun hr => hb (hk.trans hr.symm)
  case h_2 g _ =>
    rw [handlerWrite_next h]
    exact State.coreByte_congr (s.captureWrite_mem g v) (s.captureWrite_ifr g v) (s.captureWrite_ie g v) b
  case h_3 hr =>
    cases h
    unfold State.coreByte
    cases hrb : route b with
    | interruptFlags => exact absurd (hr.trans hrb.symm) hb
    | _ => rfl
  case h_4 hr =>
    cases h
    unfold State.coreByte
    cases hrb : route b with
    | interruptEnable => exact absurd (hr.trans hrb.symm) hb
    | _ => rfl
  case h_7 => exact absurd h (raise_ne_next _ _ _)
  all_goals (cases h; rfl)

theorem memWrite_frames {addr : Word} {v : Byte} (h : memWrite addr v s = .next t) (ha : addr ∈ as) : Frames fp as s t := by
  obtain ⟨hdma, hsvbk⟩ := memWrite_latches h
  have hd : 0xFF46 ∉ as → t.dmaLatch = s.dmaLatch := fun hn => hdma fun he => hn (he ▸ ha)
  have hs : 0xFF70 ∉ as → t.svbkLatch = s.svbkLatch := fun hn => hsvbk fun he => hn (he ▸ ha)
  have hb : OnlyBytesChange s t as := fun b hb => memWrite_bytes h (hb addr ha)
  rw [memWrite_next h] at hd hs hb ⊢
  exact { dmaLatch := hd, svbkLatch := hs, bytes := hb }

/-- A push moves `SP` and writes the two cells below it (R62). -/
theorem Pushed.frames {v : Word} (h : Pushed v s t) (hsp : fp.sp = true) (ha₁ : s.sp - 1 ∈ as) (ha₂ : s.sp - 2 ∈ as) :
    Frames fp as s t := by
  obtain ⟨u, hu, ht⟩ := h
  exact (((Frames.setSp hsp _).trans (memWrite_frames hu ha₁)).trans (Frames.setSp hsp _)).trans (memWrite_frames ht ha₂)

/-- A pop moves `SP` and writes nothing (R63). -/
theorem Popped.frames {lo hi : Byte} (h : Popped lo hi s t) (hsp : fp.sp = true) : Frames fp as s t := by
  obtain ⟨u, w, hu, hw, rfl⟩ := h
  exact (((memRead_frames hu).trans (Frames.setSp hsp _)).trans (memRead_frames hw)).trans (Frames.setSp hsp _)

theorem fetch8_frames {v : Byte} (h : fetch8 s = .next (v, t)) (hpc : fp.pc = true) : Frames fp as s t := by
  rw [fetch8_next h]
  exact { pc := fun hf => absurd (hpc.symm.trans hf) nofun }

/-! #### Operands -/

/-- Reading an operand that steps nothing changes the record of calls and draws alone. -/
theorem readOperand8_next_of_steps {x : Operand8} {v : Byte} (hx : x.steps = []) (h : readOperand8 x s = .next (v, t)) :
    t = { s with calls := t.calls, draws := t.draws } := by
  refine readOperand8_next_hl ⟨?_, ?_⟩ h
  · rintro rfl
    cases hx
  · rintro rfl
    cases hx

theorem readOperand8_frames {x : Operand8} {v : Byte} (h : readOperand8 x s = .next (v, t)) (hr : ∀ r ∈ x.steps, r ∈ fp.regs) :
    Frames fp as s t := by
  cases x
  case indHlInc | indHlDec =>
    obtain ⟨⟨w, u⟩, hu, h⟩ := andThen_eq_next.1 h
    cases h
    exact (memRead_frames hu).trans (Frames.setRp (r := .hl) hr nofun _)
  all_goals
    rw [readOperand8_next_of_steps rfl h]
    exact {}

theorem writeOperand8_frames {x : Operand8} {v : Byte} (h : writeOperand8 x v s = .next t) (hr : ∀ r ∈ x.writes, r ∈ fp.regs)
    (ha : ∀ a ∈ x.stores s, a ∈ as) : Frames fp as s t := by
  cases x
  case reg r =>
    cases h
    exact Frames.setReg8 (hr r (List.mem_singleton_self r)) v
  case imm => exact absurd h (raise_ne_next _ _ _)
  case indHlInc | indHlDec =>
    obtain ⟨u, hu, h⟩ := andThen_eq_next.1 h
    cases h
    exact (memWrite_frames hu (ha _ (List.mem_singleton_self _))).trans (Frames.setRp (r := .hl) hr nofun _)
  all_goals exact memWrite_frames h (ha _ (List.mem_singleton_self _))

/-- Writing an operand leaves `F`. -/
theorem writeOperand8_flags {x : Operand8} {v : Byte} (h : writeOperand8 x v s = .next t) : t.flags = s.flags := by
  have hf : t.f = s.f := (writeOperand8_frames (fp := { regs := x.writes }) h (fun _ hr => hr) fun _ ha => ha).f rfl
  unfold State.flags
  rw [hf]

/-- The addresses of an operand do not depend on the record of calls and draws. -/
theorem Operand8.stores_of_read {x y : Operand8} {v : Byte} (hy : y.steps = []) (h : readOperand8 y s = .next (v, u)) :
    x.stores u = x.stores s := by
  rw [readOperand8_next_of_steps hy h]
  cases x <;> rfl

/-! #### Shapes -/

/-- Every shape changes its footprint and the bytes it stores to alone. -/
theorem Meaning.run_frames {m : Meaning} : ∀ {s t : State}, m.run s = .next t → Frames m.footprint (m.stores s) s t := by
  induction m with
  | nop => intro s t h; cases h; exact .refl
  | halt => intro s t h; cases h; exact { halted := nofun }
  | di => intro s t h; cases h; exact { ime := nofun, eiPending := nofun }
  | ei =>
    intro s t h
    cases h
    split
    · exact { eiPending := nofun }
    · exact { ime := nofun }
  | stop | unassigned => intro s t h; exact absurd h (raise_ne_next _ _ _)
  | load dst src hsrc =>
    intro s t h
    obtain ⟨v, u, hr, hw⟩ := load8_next h
    have hu : Frames (Meaning.load dst src hsrc).footprint (dst.stores s) s u := readOperand8_frames hr (by simp [hsrc])
    exact hu.trans (writeOperand8_frames hw (fun _ hr => hr) (by simp [Operand8.stores_of_read hsrc hr]))
  | loadA src =>
    intro s t h
    obtain ⟨v, u, hr, hw⟩ := load8_next h
    cases hw
    exact (readOperand8_frames hr fun _ hm => List.mem_append_left _ hm).trans
      (Frames.setReg8 (List.mem_append_right _ (List.mem_singleton_self _)) v)
  | alu k src =>
    intro s t h
    obtain ⟨v, u, hr, rfl⟩ := alu8_next h
    exact (readOperand8_frames hr fun _ hm => List.mem_append_left _ hm).trans
      (Frames.applyAlu (fun hk => List.mem_append_right _ (by simp [hk])) rfl v)
  | modify x g m hm =>
    intro s t h
    obtain ⟨v, u, w, hr, hw, rfl⟩ := modify8_next h
    have hx := Operand8.ofLoc_steps x
    have hu : Frames (Meaning.modify x g m hm).footprint ((Operand8.ofLoc x).stores s) s u := readOperand8_frames hr (by simp [hx])
    have hw' := hu.trans (writeOperand8_frames hw (fun _ hr => hr) (by simp [Operand8.stores_of_read hx hr]))
    exact hw'.trans (Frames.setFlags (writeOperand8_flags hw ▸ hm v u.flags))
  | modifyNoFlags x g =>
    intro s t h
    obtain ⟨v, u, hr, hw⟩ := modify8NoFlags_next h
    have hx := Operand8.ofLoc_steps x
    have hu : Frames (Meaning.modifyNoFlags x g).footprint ((Operand8.ofLoc x).stores s) s u := readOperand8_frames hr (by simp [hx])
    exact hu.trans (writeOperand8_frames hw (fun _ hr => hr) (by simp [Operand8.stores_of_read hx hr]))
  | bit n x =>
    intro s t h
    obtain ⟨⟨v, u⟩, hr, h⟩ := andThen_eq_next.1 h
    cases h
    exact (readOperand8_frames hr (by simp [Operand8.ofLoc_steps x])).trans
      (Frames.setFlags (bitFlags_keeps n v u.flags))
  | flags g m hm => intro s t h; cases h; exact Frames.setFlags (hm s.flags)
  | pair r q g => intro s t h; cases h; exact Frames.setRp (fun _ hr => hr) (by rintro rfl; rfl) _
  | addHl r =>
    intro s t h
    cases h
    exact (Frames.setRp (r := .hl) (fun _ hr => hr) nofun _).trans (Frames.setFlags (addHl16_keeps _ _ s.flags))
  | addSp e => intro s t h; cases h; exact (Frames.setSp rfl _).trans (Frames.setFlags (Flags.keeps_all _ _))
  | ldHlSp e =>
    intro s t h
    cases h
    exact (Frames.setRp (r := .hl) (fun _ hr => hr) nofun _).trans (Frames.setFlags (Flags.keeps_all _ _))
  | storeSp a =>
    intro s t h
    obtain ⟨u, hu, ht⟩ := andThen_eq_next.1 h
    exact (memWrite_frames hu (by simp [Meaning.stores])).trans (memWrite_frames ht (by simp [Meaning.stores]))
  | push r => intro s t h; exact (push16_next.1 h).frames rfl (by simp [Meaning.stores]) (by simp [Meaning.stores])
  | pop r =>
    intro s t h
    obtain ⟨lo, hi, u, hp, rfl⟩ := popPair_next h
    cases r
    case bc => exact (hp.frames rfl).trans (Frames.setRp (r := .bc) (fun _ hr => hr) nofun _)
    case de => exact (hp.frames rfl).trans (Frames.setRp (r := .de) (fun _ hr => hr) nofun _)
    case hl => exact (hp.frames rfl).trans (Frames.setRp (r := .hl) (fun _ hr => hr) nofun _)
    case af => exact (hp.frames rfl).trans (Frames.setAf (List.mem_singleton_self _) rfl _)
  | jump | jumpHl | jumpBy => intro s t h; cases h; exact Frames.setPc rfl _
  | call a =>
    intro s t h
    obtain ⟨u, hp, rfl⟩ := callTo_next h
    exact (hp.frames rfl (by simp [Meaning.stores]) (by simp [Meaning.stores])).trans (Frames.setPc rfl a)
  | ret =>
    intro s t h
    obtain ⟨lo, hi, u, hp, rfl⟩ := returnTo_next h
    exact (hp.frames rfl).trans (Frames.setPc rfl _)
  | reti =>
    intro s t h
    obtain ⟨lo, hi, u, hp, rfl⟩ := returnFromInterrupt_next h
    exact (hp.frames rfl).trans { pc := nofun, ime := nofun }
  | timed c m ih =>
    intro s t h
    obtain ⟨u, hu, rfl⟩ := thenTiming_next h
    exact (ih hu).trans (Frames.setReport _)
  | cond cc m ih =>
    intro s t h
    obtain ⟨hc, u, hu, rfl⟩ | ⟨-, rfl⟩ := whenCond_next h
    · have hst : (Meaning.cond cc m).stores s = m.stores s := if_pos hc
      rw [hst]
      exact (ih hu).trans (Frames.setReport _)
    · exact .refl

/-! #### Instructions -/

/-- What an `r8` operand stores to is `HL` or nothing. -/
theorem Operand8.ofLoc_stores (x : Loc) (s : State) : (Operand8.ofLoc x).stores s ⊆ [s.hl] := by
  cases x
  · exact List.nil_subset _
  · exact List.Subset.refl _

/-- What a CB row may change: registers, flags and the byte at `HL` (R172 to R193). -/
structure CbBounded (m : Meaning) : Prop where
  sp : m.footprint.sp = false := by rfl
  ime : m.footprint.ime = false := by rfl
  eiPending : m.footprint.eiPending = false := by rfl
  halted : m.footprint.halted = false := by rfl
  stores : ∀ s, m.stores s ⊆ [s.hl]

/-- Every entry of the CB table has a meaning of one of the shapes, bounded as a CB row. -/
theorem prefixed_means (op2 : Byte) : ∃ m, Means (prefixed op2) m ∧ CbBounded m := by
  unfold prefixed
  split
  · exact ⟨_, mkRot_means _ _, { stores := Operand8.ofLoc_stores _ }⟩
  · exact ⟨_, mkBit_means _ _, { stores := fun _ => List.nil_subset _ }⟩
  · exact ⟨_, mkRes_means _ _, { stores := Operand8.ofLoc_stores _ }⟩
  · exact ⟨_, mkSet_means _ _, { stores := Operand8.ofLoc_stores _ }⟩

/-- A CB row stays within what the row of 0xCB may change. -/
theorem Frames.of_cb {m : Meaning} (hm : CbBounded m) (h : Frames m.footprint (m.stores s) s t) :
    Frames (footprintOf .prefixCb) (Instr.prefixCb.storeAddresses s) s t where
  reg8 r hr := absurd ((mem_filter_allReg8 Instr.prefixCb.writesReg r).2 rfl) hr
  sp _ := h.sp hm.sp
  flag := (Frames.setF (fp := footprintOf .prefixCb) (as := []) (s := s) rfl t.f).flag
  f := nofun
  pc := nofun
  ime _ := h.ime hm.ime
  eiPending _ := h.eiPending hm.eiPending
  halted _ := h.halted hm.halted
  dmaLatch hd := h.dmaLatch fun ha => hd (hm.stores s ha)
  svbkLatch hd := h.svbkLatch fun ha => hd (hm.stores s ha)
  bytes b hb := h.bytes b fun a ha => hb a (hm.stores s ha)
  status := h.status
  platform := h.platform
  envIrq := h.envIrq

/-- The row of 0xCB fetches a byte and is a CB row (R265). -/
theorem exec_prefixCb_frames (h : exec .prefixCb s = .next t) :
    Frames (footprintOf .prefixCb) (Instr.prefixCb.storeAddresses s) s t := by
  rw [exec_prefixCb] at h
  obtain ⟨⟨op2, u⟩, hf, h⟩ := andThen_eq_next.1 h
  obtain ⟨m, hm, hb⟩ := prefixed_means op2
  have hu : u.hl = s.hl := by rw [fetch8_next hf]; rfl
  have hst : Instr.prefixCb.storeAddresses u = Instr.prefixCb.storeAddresses s := congrArg (fun a => [a]) hu
  exact (fetch8_frames hf rfl).trans (hst ▸ Frames.of_cb hb (Meaning.run_frames ((hm.run u).symm.trans h)))

/-- Every instruction changes its footprint and the bytes at its store addresses alone. -/
theorem exec_frames {i : Instr} (h : exec i s = .next t) : Frames (footprintOf i) (i.storeAddresses s) s t := by
  by_cases hi : i = .prefixCb
  · cases hi
    exact exec_prefixCb_frames h
  · obtain ⟨m, hm⟩ := exec_means hi
    rw [hm.footprint, hm.stores s]
    exact Meaning.run_frames ((hm.run s).symm.trans h)

end Sys2Proof.Machine

namespace Sys2Proof.Machine

/-- Settles O58: the registers and flags of the frame of every instruction. -/
theorem frameRegistersAndFlags : Obligations.FrameRegistersAndFlags := by
  intro i s t h
  have hf := exec_frames h
  refine ⟨fun r hr => hf.reg8 r fun hm => ?_, hf.sp, hf.flag, hf.f⟩
  exact absurd (hr.symm.trans ((mem_filter_allReg8 _ r).1 hm)) nofun

/-- Settles O59: the fields of control of the frame of every instruction. -/
theorem frameControlState : Obligations.FrameControlState := by
  intro i s t h
  have hf := exec_frames h
  have hpc : i.transfers = false → i ≠ .prefixCb → (footprintOf i).pc = false := fun ht hi => by simp [footprintOf, ht, hi]
  exact ⟨fun hi => hf.ime (decide_eq_false hi), fun hi => hf.eiPending (decide_eq_false hi), fun hi => hf.halted (decide_eq_false hi),
    fun ht hi => hf.pc (hpc ht hi), hf.dmaLatch, hf.svbkLatch, hf.status, hf.platform, hf.envIrq⟩

end Sys2Proof.Machine
end

section
/-! ### O38: PUSH then POP -/

namespace Sys2Proof.Machine

/-- A read of a RAM cell answers its byte and changes nothing (R43, R44, R51). -/
theorem memRead_ram {addr : Word} {k : Nat} (h : route addr = .ram k) (s : State) : memRead addr s = .next (s.ram k, s) := by
  unfold memRead
  rw [h]

/-- A write of a RAM cell changes that cell (R43, R44, R51). -/
theorem memWrite_ram {addr : Word} {k : Nat} (h : route addr = .ram k) (v : Byte) (s : State) :
    memWrite addr v s = .next { s with mem := Memory.write s.mem k v } := by
  unfold memWrite
  rw [h]

/-- The two cells of a push are different, also across the end of the echo (R44, R62). -/
theorem push_cells_ne {sp : Word} {k₁ k₂ : Nat} (h₁ : route (sp - 1) = .ram k₁) (h₂ : route (sp - 2) = .ram k₂) : k₁ ≠ k₂ := by
  have hn : (sp - 2).toNat = (sp - 1).toNat - 1 ∨ (sp - 1).toNat = 0 := by bv_omega
  have hat₁ := route_at (sp - 1)
  have hat₂ := route_at (sp - 2)
  rw [h₁] at hat₁
  rw [h₂] at hat₂
  dsimp only [Route.At] at hat₁ hat₂
  omega

/-- A flag byte with a zero low nibble is its high nibble (R12). -/
theorem high_nibble_of_low_zero {f : Byte} (h : f &&& 0x0F = 0) : f &&& 0xF0 = f := by
  calc f &&& 0xF0 = (f &&& 0xF0) ||| (f &&& 0x0F) := by rw [h]; exact BitVec.or_zero.symm
    _ = f &&& (0xF0 ||| 0x0F) := BitVec.and_or_distrib_left.symm
    _ = f := BitVec.and_allOnes

/-- Writing back what a pair holds changes nothing, where `F[3:0]` is zero (R13, R14). -/
theorem State.setRp2_rp2 {s : State} (hf : s.f &&& 0x0F = 0) (r : Rp2) : s.setRp2 r (s.rp2 r) = s := by
  cases r
  case bc => simp [State.setRp2, State.rp2, State.setBc, State.bc]
  case de => simp [State.setRp2, State.rp2, State.setDe, State.de]
  case hl => simp [State.setRp2, State.rp2, State.setHl, State.hl]
  case af => simp only [State.setRp2, State.rp2, State.setAf, State.af, loByte_joinBytes, hiByte_joinBytes, high_nibble_of_low_zero hf]

/-- A push onto two RAM cells writes them and moves `SP` (R62). -/
theorem pushed_ram {s : State} {k₁ k₂ : Nat} (v : Word) (h₁ : route (s.sp - 1) = .ram k₁) (h₂ : route (s.sp - 2) = .ram k₂) :
    Pushed v s { s with sp := s.sp - 2, mem := Memory.write (Memory.write s.mem k₁ (hiByte v)) k₂ (loByte v) } :=
  ⟨_, memWrite_ram h₁ _ _, memWrite_ram h₂ _ _⟩

/-- A pop from two RAM cells answers their bytes and moves `SP` (R63). -/
theorem popped_ram {s : State} {k₁ k₂ : Nat} (h₁ : route s.sp = .ram k₁) (h₂ : route (s.sp + 1) = .ram k₂) :
    Popped (s.ram k₁) (s.ram k₂) s { s with sp := s.sp + 2 } :=
  ⟨_, _, memRead_ram h₁ s, memRead_ram h₂ _, rfl⟩

/-- A pop right after a push onto two RAM cells answers what was pushed, and leaves the state but for memory (R62, R63). -/
theorem popped_of_pushed_ram {s : State} {k₁ k₂ : Nat} (v : Word) (h₁ : route (s.sp - 1) = .ram k₁) (h₂ : route (s.sp - 2) = .ram k₂) :
    ∃ m, Pushed v s { s with sp := s.sp - 2, mem := m } ∧
      Popped (loByte v) (hiByte v) { s with sp := s.sp - 2, mem := m } { s with mem := m } := by
  refine ⟨_, pushed_ram v h₁ h₂, ?_⟩
  generalize hm : Memory.write (Memory.write s.mem k₁ (hiByte v)) k₂ (loByte v) = m
  have hlo : ({ s with sp := s.sp - 2, mem := m } : State).ram k₂ = loByte v := by simp [State.ram, ← hm]
  have hhi : ({ s with sp := s.sp - 2, mem := m } : State).ram k₁ = hiByte v := by
    simp [State.ram, ← hm, Memory.read_write_ne _ _ _ _ (push_cells_ne h₁ h₂).symm]
  have hnext : s.sp - 2 + 1 = s.sp - 1 := by bv_omega
  have hback : s.sp - 2 + 2 = s.sp := BitVec.sub_add_cancel _ _
  have hp := popped_ram (s := { s with sp := s.sp - 2, mem := m }) h₂ (hnext ▸ h₁)
  rw [hlo, hhi] at hp
  simpa only [hback] using hp

/-- A pop that goes through writes its pair (R235, R236). -/
theorem popPair_of_popped {r : Rp2} {s u : State} {lo hi : Byte} (h : Popped lo hi s u) :
    popPair r s = .next (u.setRp2 r (joinBytes lo hi)) := by
  unfold popPair
  rw [pop16_next.2 ⟨lo, hi, rfl, h⟩]
  rfl

/-- Settles O38: the pop reads back the two cells the push wrote, and the frames of both bound the bytes that change. -/
theorem pushThenPop : Obligations.PushThenPop := by
  intro s x k₁ k₂ hf h₁ h₂
  obtain ⟨m, hpush, hpop⟩ := popped_of_pushed_ram (s.rp2 x) h₁ h₂
  have ht : exec (Instr.mkPush x) s = .next { s with sp := s.sp - 2, mem := m } := (exec_mkPush x s).trans (push16_next.2 hpush)
  have hu : exec (Instr.mkPop x) { s with sp := s.sp - 2, mem := m } = .next { s with mem := m } := by
    have hrp : s.rp2 x = ({ s with mem := m } : State).rp2 x := by cases x <;> rfl
    rw [exec_mkPop, popPair_of_popped hpop, joinBytes_lo_hi, hrp, State.setRp2_rp2 (s := { s with mem := m }) hf]
  have hpushed := (exec_frames ht).bytes
  have hpopped := (exec_frames hu).bytes
  rw [(mkPush_means x).stores] at hpushed
  rw [(mkPop_means x).stores] at hpopped
  exact ⟨_, _, ht, hu, rfl, fun b hb => (hpopped b nofun).trans (hpushed b hb)⟩

end Sys2Proof.Machine
end

section
/-! ### The branches of a step -/

namespace Sys2Proof.Machine

/-- A running core's step is a cycle after the environment has acted (R74, R270). -/
theorem step_of_running {s : State} (h : s.status = .running) : step s = cycle s.raiseEnvironment := by
  unfold step stepOf
  rw [h]

theorem State.raiseEnvironment_pc (s : State) : s.raiseEnvironment.pc = s.pc := by rw [s.raiseEnvironment_frame]

theorem cycle_of_toDispatch {s : State} {n : Fin 5} (h : s.wake.toDispatch = some n) : cycle s = dispatchInterrupt n s.wake := by
  unfold cycle
  dsimp only
  rw [h]

theorem cycle_of_run {s : State} (hd : s.wake.toDispatch = none) (hh : s.wake.halted = false) :
    cycle s = runInstr s.wake.applyPendingEi := by
  unfold cycle
  dsimp only
  rw [hd, hh]
  rfl

/-! ### O49: the dispatch -/

/-- With no candidate at all, no bit of a source is set (R281). -/
theorem lowestPending_eq_none {p : Byte} (h : lowestPending p = none) (n : Fin 5) : p.getLsbD n.val = false := by
  unfold lowestPending at h
  split_ifs at h
  fin_cases n <;> exact Bool.eq_false_iff.2 ‹_›

/-- A candidate with none below it is the least (R281). -/
theorem lowestPending_of_least {p : Byte} {n : Fin 5} (hn : p.getLsbD n.val = true) (hlt : ∀ j < n.val, p.getLsbD j = false) :
    lowestPending p = some n := by
  cases h : lowestPending p with
  | none => exact absurd (hn.symm.trans (lowestPending_eq_none h n)) nofun
  | some m =>
    obtain ⟨hm, hltm⟩ := lowestPending_eq_some h
    rcases lt_trichotomy m.val n.val with hmn | hmn | hmn
    · exact absurd (hm.symm.trans (hlt m.val hmn)) nofun
    · rw [Fin.ext hmn]
    · exact absurd (hn.symm.trans (hltm n.val hmn)) nofun

/-- The state a dispatch pushes from: IME, `ei_pending` and the pending bit cleared (R282, R286). -/
def State.acknowledged (s : State) (n : Fin 5) : State :=
  { s with ime := false, eiPending := false, ifr := s.ifr &&& BitVec.ofNat 8 (255 - 2 ^ n.val) }

/-- A dispatch acknowledges the source, pushes `pc`, then enters the vector (R24, R282). -/
theorem dispatchInterrupt_eq (n : Fin 5) (s : State) :
    dispatchInterrupt n s = andThen (push16 s.pc (s.acknowledged n)) fun t =>
      .next { t with pc := BitVec.ofNat 16 (0x40 + 8 * n.val), report := .interruptDispatch n } := by
  fin_cases n <;> rfl

/-- Settles O49: a candidate makes the wake and the dispatch happen, and the push of `pc` decides the outcome. -/
theorem dispatchEntersHandler : Obligations.DispatchEntersHandler := by
  intro s n hrun s₀ pend s₁ hime hn hlt
  have hpend : s₀.pend ≠ 0 := by
    intro h0
    have hp : pend = 0 := h0
    rw [hp] at hn
    simp at hn
  have hwake : s₀.wake = { s₀ with halted := false } := if_neg hpend
  have hdisp : s₀.wake.toDispatch = some n := by
    rw [hwake]
    exact (if_pos hime).trans (lowestPending_of_least hn hlt)
  have hpc : s₀.pc = s.pc := s.raiseEnvironment_pc
  have hstep : step s = andThen (push16 s.pc s₁) fun t =>
      .next { t with pc := BitVec.ofNat 16 (0x40 + 8 * n.val), report := .interruptDispatch n } := by
    rw [step_of_running hrun, cycle_of_toDispatch hdisp, dispatchInterrupt_eq, hwake, ← hpc]
    rfl
  rw [hstep]
  constructor
  · intro hc
    obtain ⟨u, hu, hp⟩ := push16_of_canPush s.pc hc
    exact ⟨u, hp, by rw [hu]; rfl⟩
  · intro hc
    obtain ⟨e, hp, he⟩ := push16_stops s.pc hc
    exact ⟨e, hp, by rw [he]; rfl⟩

/-! ### O48: the fetch of a whole instruction -/

theorem fetchedBytes_mkLd (x y : Loc) : fetchedBytes (Instr.mkLd x y) = 1 := by
  rcases x with (_ | _ | _ | _ | _ | _ | _) | _ <;> rcases y with (_ | _ | _ | _ | _ | _ | _) | _ <;> rfl
theorem fetchedBytes_mkAlu (k : Alu) (x : Loc) : fetchedBytes (Instr.mkAlu k x) = 1 := by
  cases k <;> rcases x with (_ | _ | _ | _ | _ | _ | _) | _ <;> rfl
theorem fetchedBytes_mkAluImm (k : Alu) (d : Byte) : fetchedBytes (Instr.mkAluImm k d) = 2 := by cases k <;> rfl
theorem fetchedBytes_mkInc (x : Loc) : fetchedBytes (Instr.mkInc x) = 1 := by rcases x with (_ | _ | _ | _ | _ | _ | _) | _ <;> rfl
theorem fetchedBytes_mkDec (x : Loc) : fetchedBytes (Instr.mkDec x) = 1 := by rcases x with (_ | _ | _ | _ | _ | _ | _) | _ <;> rfl
theorem fetchedBytes_mkLdImm (x : Loc) (d : Byte) : fetchedBytes (Instr.mkLdImm x d) = 2 := by
  rcases x with (_ | _ | _ | _ | _ | _ | _) | _ <;> rfl
theorem fetchedBytes_mkLdRp (r : Rp) (d : Word) : fetchedBytes (Instr.mkLdRp r d) = 3 := by cases r <;> rfl
theorem fetchedBytes_mkAddHl (r : Rp) : fetchedBytes (Instr.mkAddHl r) = 1 := by cases r <;> rfl
theorem fetchedBytes_mkIncRp (r : Rp) : fetchedBytes (Instr.mkIncRp r) = 1 := by cases r <;> rfl
theorem fetchedBytes_mkDecRp (r : Rp) : fetchedBytes (Instr.mkDecRp r) = 1 := by cases r <;> rfl
theorem fetchedBytes_mkPop (r : Rp2) : fetchedBytes (Instr.mkPop r) = 1 := by cases r <;> rfl
theorem fetchedBytes_mkPush (r : Rp2) : fetchedBytes (Instr.mkPush r) = 1 := by cases r <;> rfl
theorem fetchedBytes_mkRst (y : Fin 8) : fetchedBytes (Instr.mkRst y) = 1 := by fin_cases y <;> rfl

/-- The entry's instructions have one opcode byte and the operand bytes that the entry calls for (R81, R90). -/
def Row.Fetched (row : Row) : Prop :=
  match row with
  | .whole i => fetchedBytes i = 1
  | .byteOperand f => ∀ d, fetchedBytes (f d) = 2
  | .wordOperand f => ∀ d, fetchedBytes (f d) = 3
  | .cbPrefix => True

theorem unprefixed_fetched (op : Byte) : Row.Fetched (unprefixed op) := by
  unfold unprefixed
  repeat' split
  all_goals simp only [Row.Fetched, fetchedBytes_mkLd, fetchedBytes_mkAlu, fetchedBytes_mkAluImm, fetchedBytes_mkInc, fetchedBytes_mkDec,
    fetchedBytes_mkLdImm, fetchedBytes_mkLdRp, fetchedBytes_mkAddHl, fetchedBytes_mkIncRp, fetchedBytes_mkDecRp, fetchedBytes_mkPop,
    fetchedBytes_mkPush, fetchedBytes_mkRst, implies_true]
  all_goals intros; rfl

theorem fetchedBytes_prefixed (op2 : Byte) : fetchedBytes (prefixed op2) = 2 := by
  unfold prefixed
  split
  · unfold Instr.mkRot; split <;> rfl
  · unfold Instr.mkBit; split <;> rfl
  · unfold Instr.mkRes; split <;> rfl
  · unfold Instr.mkSet; split <;> rfl

/-- Fetching one more byte is a fetch, then the rest. -/
theorem fetchBytes_succ {n : Nat} {s t : State} {bytes : List Byte} (h : fetchBytes (n + 1) s = .next (bytes, t)) :
    ∃ v vs u, bytes = v :: vs ∧ fetch8 s = .next (v, u) ∧ fetchBytes n u = .next (vs, t) := by
  obtain ⟨⟨v, u⟩, hv, h⟩ := andThen_eq_next.1 h
  obtain ⟨⟨vs, w⟩, hvs, h⟩ := andThen_eq_next.1 h
  cases h
  exact ⟨v, vs, u, rfl, hv, hvs⟩

/-- Fetching `n` bytes moves `pc` by `n` and changes nothing else but the record of calls and draws (R61). -/
theorem fetchBytes_next {n : Nat} : ∀ {s t : State} {bytes : List Byte}, fetchBytes n s = .next (bytes, t) →
    t = { s with pc := s.pc + BitVec.ofNat 16 n, calls := t.calls, draws := t.draws } := by
  induction n with
  | zero =>
    intro s t bytes h
    cases h
    simp
  | succ n ih =>
    intro s t bytes h
    obtain ⟨v, vs, u, -, hv, hvs⟩ := fetchBytes_succ h
    have hpc : s.pc + 1 + BitVec.ofNat 16 n = s.pc + BitVec.ofNat 16 (n + 1) := by
      rw [Nat.add_comm, BitVec.ofNat_add, ← BitVec.add_assoc]
      rfl
    rw [ih hvs, fetch8_next hv, hpc]

theorem fetchBytes_zero {s t : State} {bytes : List Byte} (h : fetchBytes 0 s = .next (bytes, t)) : bytes = [] ∧ s = t := by
  cases h
  exact ⟨rfl, rfl⟩

/-- Two fetches of a byte are a fetch of a word, low byte first (R61). -/
theorem fetch16_of_fetch8 {s u w : State} {lo hi : Byte} (hlo : fetch8 s = .next (lo, u)) (hhi : fetch8 u = .next (hi, w)) :
    fetch16 s = .next (joinBytes lo hi, w) := by
  unfold fetch16
  simp only [hlo, hhi, andThen_next]

/-- Where the bytes that are fetched decode to a whole instruction, the step's own fetch reads that instruction (R90, R94). -/
theorem fetchInstr_of_decode {s t : State} {bytes : List Byte} {i : Instr} (h : fetchBytes (fetchedBytes i) s = .next (bytes, t))
    (hd : decode bytes = .ok i) (hw : i.wellFormed = true) : fetchInstr s = .next (i, t) := by
  unfold decode at hd
  split at hd
  · cases hd
  · rename_i op rest
    have hrow := unprefixed_fetched op
    unfold fetchInstr
    split at hd <;> cases hd
    case h_1 hu =>
      rw [hu] at hrow
      rw [hrow] at h
      obtain ⟨_, _, u, hb, hop, h⟩ := fetchBytes_succ h
      obtain ⟨-, rfl⟩ := fetchBytes_zero h
      cases hb
      simp only [hop, andThen_next, hu]
    case h_2 f d _ hu =>
      rw [hu] at hrow
      rw [hrow d] at h
      obtain ⟨_, _, u, hb, hop, h⟩ := fetchBytes_succ h
      obtain ⟨_, _, w, hb', hd, h⟩ := fetchBytes_succ h
      obtain ⟨-, rfl⟩ := fetchBytes_zero h
      cases hb
      cases hb'
      simp only [hop, andThen_next, hu, hd]
    case h_4 f lo hi _ hu =>
      rw [hu] at hrow
      rw [hrow] at h
      obtain ⟨_, _, u, hb, hop, h⟩ := fetchBytes_succ h
      obtain ⟨_, _, w, hb', hlo, h⟩ := fetchBytes_succ h
      obtain ⟨_, _, x, hb'', hhi, h⟩ := fetchBytes_succ h
      obtain ⟨-, rfl⟩ := fetchBytes_zero h
      cases hb
      cases hb'
      cases hb''
      simp only [hop, andThen_next, hu, fetch16_of_fetch8 hlo hhi]
    case h_6 op2 _ hu =>
      rw [fetchedBytes_prefixed] at h
      obtain ⟨_, _, u, hb, hop, h⟩ := fetchBytes_succ h
      obtain ⟨_, _, w, hb', hd, h⟩ := fetchBytes_succ h
      obtain ⟨-, rfl⟩ := fetchBytes_zero h
      cases hb
      cases hb'
      simp only [hop, andThen_next, hu, hd]
    case h_7 => cases hw

/-- A step that fetches a whole instruction is its meaning, at the default timing class (R270, R306). -/
theorem runInstr_of_fetch {s t : State} {i : Instr} (h : fetchInstr s = .next (i, t)) :
    runInstr s = exec i { t with report := .executed .default } := by
  unfold runInstr
  rw [h]
  rfl

/-- Nothing is dispatched where IME is clear or no source is a candidate (R282). -/
theorem State.toDispatch_eq_none {s : State} (h : ¬(s.ime = true ∧ s.pend ≠ 0)) : s.toDispatch = none := by
  unfold State.toDispatch
  split
  · have hp : s.pend = 0 := by_contra fun hne => h ⟨‹_›, hne⟩
    rw [hp]
    rfl
  · rfl

/-- The wake changes neither IME nor the candidates. -/
theorem State.wake_frame (s : State) : s.wake = { s with halted := s.wake.halted } := by
  unfold State.wake
  split <;> rfl

theorem State.applyPendingEi_pc (s : State) : s.applyPendingEi.pc = s.pc := by
  unfold State.applyPendingEi
  split <;> rfl

/-- Settles O48: nothing is dispatched, and the fetch of the decoded bytes is the step's own. -/
theorem stepRunsDecodedInstruction : Obligations.StepRunsDecodedInstruction := by
  intro s t bytes i hrun s₀ s₁ s₂ hno hawake hfetch hdecode hwhole
  have h₁ : s₀.wake = s₁ := rfl
  have h₂ : s₀.wake.applyPendingEi = s₂ := rfl
  have hdisp : s₀.wake.toDispatch = none := by
    rw [s₀.wake_frame]
    exact State.toDispatch_eq_none hno
  have hpc : s₂.pc = s.pc := by
    rw [← h₂, State.applyPendingEi_pc, s₀.wake_frame]
    exact s.raiseEnvironment_pc
  constructor
  · rw [step_of_running hrun, cycle_of_run hdisp hawake, h₂]
    exact runInstr_of_fetch (fetchInstr_of_decode hfetch hdecode hwhole)
  · rw [← hpc]
    exact fetchBytes_next hfetch

/-! ### O55: the state after reset -/

/-- Settles O55: the values are those of the reset record, and the invariant is that of a reset event. -/
theorem resetState : Obligations.ResetState := by
  have hwf : State.reset.Wf := State.afterReset_wf (s := State.reset) List.Pairwise.nil
  exact ⟨hwf, rfl, rfl, rfl, rfl, rfl, rfl, rfl, rfl, rfl, rfl, rfl, rfl, rfl, rfl, fun _ => rfl, fun _ => rfl⟩

end Sys2Proof.Machine
end

section
/-! ### The rows of the Memory Router -/

namespace Sys2Proof.Machine

/-- The rows of the dispatch table with one behaviour, as ranges of addresses (R41, R53). Where the row is RAM, also the cell of an
address in it (R43, R44, R51). -/
def Route.Spans (r : Route) (n : Nat) : Prop :=
  match r with
  | .ram k => (0xC000 ≤ n ∧ n ≤ 0xDFFF ∧ k = n) ∨ (0xE000 ≤ n ∧ n ≤ 0xFDFF ∧ k = n - 0x2000) ∨ (0xFF80 ≤ n ∧ n ≤ 0xFFFE ∧ k = n)
  | .collaborator .cartRomVram => 0x0000 ≤ n ∧ n ≤ 0x9FFF
  | .collaborator .cartRam => 0xA000 ≤ n ∧ n ≤ 0xBFFF
  | .collaborator .joypad => 0xFF00 ≤ n ∧ n ≤ 0xFF00
  | .collaborator .serial => 0xFF01 ≤ n ∧ n ≤ 0xFF02
  | .collaborator .timer => 0xFF04 ≤ n ∧ n ≤ 0xFF07
  | .collaborator .audio => 0xFF10 ≤ n ∧ n ≤ 0xFF3F
  | .collaborator .ppu =>
    ∃ p ∈ [(0xFF40, 0xFF45), (0xFF47, 0xFF4B), (0xFF4F, 0xFF4F), (0xFF68, 0xFF69)], p.1 ≤ n ∧ n ≤ p.2
  | .collaborator .oamDma => 0xFF46 ≤ n ∧ n ≤ 0xFF46
  | .collaborator .svbk => 0xFF70 ≤ n ∧ n ≤ 0xFF70
  | .interruptFlags => n = 0xFF0F
  | .interruptEnable => n = 0xFFFF
  | .speedSwitch => n = 0xFF4D
  | .tolerated => n = 0xFF7F
  | .outOfRange =>
    ∃ p ∈ [(0xFE00, 0xFEFF), (0xFF03, 0xFF03), (0xFF08, 0xFF0E), (0xFF4C, 0xFF4C), (0xFF4E, 0xFF4E), (0xFF50, 0xFF67),
      (0xFF6A, 0xFF6F), (0xFF71, 0xFF7E)], p.1 ≤ n ∧ n ≤ p.2

/-- An address lies in the ranges of the row it is routed to: row by row of the dispatch table. -/
theorem route_spans (addr : Word) : (route addr).Spans addr.toNat := by
  generalize h : route addr = r
  have hlt : addr.toNat < 65536 := addr.isLt
  dsimp only [route] at h
  generalize addr.toNat = n at h hlt ⊢
  iterate 26
    rcases ite_eq_cases h with ⟨_, h'⟩ | ⟨_, h'⟩
    · subst h'
      simp only [Route.Spans, List.exists_mem_cons_iff, List.not_mem_nil, false_and, exists_false, and_true]
      omega
    clear h
    rename' h' => h
  subst h
  show n = 0xFFFF
  omega

/-- An address in the ranges of a row is routed to it: every test of the dispatch table comes out as the range says. -/
theorem route_of_spans {addr : Word} {r : Route} (h : r.Spans addr.toNat) : route addr = r := by
  dsimp only [route]
  generalize addr.toNat = n at h ⊢
  match r with
  | .ram k =>
    obtain ⟨_, _, hk⟩ | ⟨_, _, hk⟩ | ⟨_, _, hk⟩ := h
    all_goals
      rw [hk]
      simp (disch := omega) only [↓if_pos, ↓if_neg]
  | .collaborator .ppu =>
    simp only [Route.Spans, List.exists_mem_cons_iff, List.not_mem_nil, false_and, exists_false, or_false] at h
    rcases h with h | h | h | h
    all_goals simp (disch := omega) only [↓if_pos, ↓if_neg]
  | .outOfRange =>
    simp only [Route.Spans, List.exists_mem_cons_iff, List.not_mem_nil, false_and, exists_false, or_false] at h
    rcases h with h | h | h | h | h | h | h | h
    all_goals simp (disch := omega) only [↓if_pos, ↓if_neg]
  | .collaborator .cartRomVram | .collaborator .cartRam | .collaborator .joypad | .collaborator .serial | .collaborator .timer
  | .collaborator .audio | .collaborator .oamDma | .collaborator .svbk | .interruptFlags | .interruptEnable | .speedSwitch
  | .tolerated =>
    dsimp only [Route.Spans] at h
    simp (disch := omega) only [↓if_pos, ↓if_neg]

/-- The dispatch table, row by row (R41, R54). -/
theorem route_eq_iff {addr : Word} {r : Route} : route addr = r ↔ r.Spans addr.toNat :=
  ⟨fun h => h ▸ route_spans addr, route_of_spans⟩

/-- Settles O6: each clause is a row of the dispatch table. -/
theorem routerTable : Obligations.RouterTable := fun _ =>
  ⟨route_eq_iff, route_eq_iff, route_eq_iff, route_eq_iff, route_eq_iff, route_eq_iff, route_eq_iff, route_eq_iff, route_eq_iff,
    route_eq_iff⟩

end Sys2Proof.Machine
end

section
/-! ### What an access does, row by row -/

namespace Sys2Proof.Machine

variable {s : State} {addr : Word} {v : Byte}

/-! #### Reads -/

theorem memRead_interruptFlags (h : route addr = .interruptFlags) : memRead addr s = .next (s.ifr, s) := by
  unfold memRead
  rw [h]

theorem memRead_interruptEnable (h : route addr = .interruptEnable) : memRead addr s = .next (s.ie, s) := by
  unfold memRead
  rw [h]

theorem memRead_speedSwitch (h : route addr = .speedSwitch) : memRead addr s = .next (0x00, s) := by
  unfold memRead
  rw [h]

theorem memRead_tolerated (h : route addr = .tolerated) :
    memRead addr s = .next (Config.ff7fRead s.draws, { s with draws := s.draws + 1 }) := by
  unfold memRead
  rw [h]

theorem memRead_outOfRange (h : route addr = .outOfRange) : memRead addr s = raise (.addressOutOfRange addr) s := by
  unfold memRead
  rw [h]

theorem memRead_collaborator {g : Region} (h : route addr = .collaborator g) : memRead addr s = handlerRead g addr s := by
  unfold memRead
  rw [h]

/-! #### Writes -/

theorem memWrite_interruptFlags (h : route addr = .interruptFlags) : memWrite addr v s = .next { s with ifr := v } := by
  unfold memWrite
  rw [h]

theorem memWrite_interruptEnable (h : route addr = .interruptEnable) : memWrite addr v s = .next { s with ie := v } := by
  unfold memWrite
  rw [h]

theorem memWrite_speedSwitch (h : route addr = .speedSwitch) : memWrite addr v s = .next s := by
  unfold memWrite
  rw [h]

theorem memWrite_tolerated (h : route addr = .tolerated) : memWrite addr v s = .next s := by
  unfold memWrite
  rw [h]

theorem memWrite_outOfRange (h : route addr = .outOfRange) : memWrite addr v s = raise (.addressOutOfRange addr) s := by
  unfold memWrite
  rw [h]

theorem memWrite_collaborator {g : Region} (h : route addr = .collaborator g) :
    memWrite addr v s = handlerWrite g addr v (s.captureWrite g v) := by
  unfold memWrite
  rw [h]

/-- A raise reports its cause and changes nothing else (R271, R277). -/
theorem raise_reports {α : Type} (c : Fatal) (s : State) :
    ∃ e, (raise c s : Res α) = .fault e ∧ e.cause = c ∧ StopsAt s (raise c s : Res α) :=
  ⟨_, rfl, faultOf_cause _ _, raise_stopsAt c s⟩

/-! #### RAM -/

/-- A byte written to a RAM cell reads back at every address of that cell (R43, R44, R65). -/
theorem memRead_of_memWrite_ram {a b : Word} {k : Nat} {t : State} (ha : route a = .ram k) (hb : route b = .ram k)
    (h : memWrite a v s = .next t) : memRead b t = .next (v, t) := by
  rw [memWrite_ram ha] at h
  cases h
  rw [memRead_ram hb, State.ram_write, if_pos rfl]

/-- The cell of an echo address is that of the address 0x2000 lower (R44). -/
theorem route_echo (h₁ : 0xE000 ≤ addr.toNat) (h₂ : addr.toNat ≤ 0xFDFF) :
    route addr = .ram (addr.toNat - 0x2000) ∧ route (addr - 0x2000) = .ram (addr.toNat - 0x2000) := by
  have hn : (addr - 0x2000).toNat = addr.toNat - 0x2000 := by bv_omega
  exact ⟨route_of_spans (.inr (.inl ⟨h₁, h₂, rfl⟩)), route_of_spans (.inl ⟨by omega, by omega, hn.symm⟩)⟩

/-! #### Collaborator regions -/

/-- The two regions with a latch are single addresses (R47, R49). -/
theorem captured_regions {g : Region} (h : route addr = .collaborator g) :
    (addr = 0xFF46 ↔ g = .oamDma) ∧ (addr = 0xFF70 ↔ g = .svbk) := by
  have hat := route_at addr
  rw [h] at hat
  refine ⟨⟨?_, ?_⟩, ⟨?_, ?_⟩⟩
  · rintro rfl
    exact (Route.collaborator.inj h).symm
  · rintro rfl
    exact BitVec.eq_of_toNat_eq hat
  · rintro rfl
    exact (Route.collaborator.inj h).symm
  · rintro rfl
    exact BitVec.eq_of_toNat_eq hat

/-- The capture of a write, by its address (R47, R49). -/
theorem State.captureWrite_of_route {g : Region} (h : route addr = .collaborator g) (s : State) (v : Byte) :
    s.captureWrite g v = { s with
      dmaLatch := if addr = 0xFF46 then v else s.dmaLatch
      svbkLatch := if addr = 0xFF70 then v else s.svbkLatch } := by
  obtain ⟨hdma, hsvbk⟩ := captured_regions h
  simp only [hdma, hsvbk]
  cases g <;> rfl

theorem handlerRead_of_handler {g : Region} (h : s.hasHandler g = true) (addr : Word) :
    handlerRead g addr s = .next ((s.logCall g addr .read).handlerByte addr, s.logCall g addr .read) := if_pos h

theorem handlerRead_of_no_handler {g : Region} (h : s.hasHandler g = false) (addr : Word) :
    handlerRead g addr s = raise (.notImplemented g addr .read) s := if_neg (Bool.eq_false_iff.1 h)

theorem handlerWrite_of_handler {g : Region} (h : s.hasHandler g = true) (addr : Word) (v : Byte) :
    handlerWrite g addr v s = .next (s.logCall g addr (.write v)) := if_pos h

theorem handlerWrite_of_no_handler {g : Region} (h : s.hasHandler g = false) (addr : Word) (v : Byte) :
    handlerWrite g addr v s = raise (.notImplemented g addr (.write v)) s := if_neg (Bool.eq_false_iff.1 h)

end Sys2Proof.Machine
end

section
/-! ### O7 to O11, O25, O57: accesses and their frame -/

namespace Sys2Proof.Machine

/-- Settles O7: a read of each row, by what the router finds there. -/
theorem routerReads : Obligations.RouterReads := by
  intro s addr n
  refine ⟨fun h₁ h₂ => memRead_ram (route_of_spans (.inl ⟨h₁, h₂, rfl⟩)) s, fun h₁ h₂ => ?_,
    fun h₁ h₂ => memRead_ram (route_of_spans (.inr (.inr ⟨h₁, h₂, rfl⟩))) s, fun h => memRead_interruptFlags (route_of_spans h),
    fun h => memRead_interruptEnable (route_of_spans h), fun h => memRead_speedSwitch (route_of_spans h),
    fun h => ⟨_, memRead_tolerated (route_of_spans h)⟩, fun h => ?_⟩
  · obtain ⟨hecho, hlow⟩ := route_echo h₁ h₂
    rw [memRead_ram hecho, memRead_ram hlow]
  · rw [memRead_outOfRange h]
    exact raise_reports _ s

/-- Settles O8: a write of each row, by what the router finds there. -/
theorem routerWrites : Obligations.RouterWrites := by
  intro s addr v n
  refine ⟨fun h => ?_, fun h₁ h₂ => ?_, fun h => memWrite_interruptFlags (route_of_spans h),
    fun h => memWrite_interruptEnable (route_of_spans h), fun h => ?_, fun h => ?_⟩
  · have hr : route addr = .ram n :=
      route_of_spans (h.imp (fun h => ⟨h.1, h.2, rfl⟩) fun h => .inr ⟨h.1, h.2, rfl⟩)
    exact ⟨_, memWrite_ram hr v s, fun k => State.ram_write s n k v⟩
  · obtain ⟨hecho, hlow⟩ := route_echo h₁ h₂
    rw [memWrite_ram hecho, memWrite_ram hlow]
  · rcases h with h | h
    · exact memWrite_speedSwitch (route_of_spans h)
    · exact memWrite_tolerated (route_of_spans h)
  · rw [memWrite_outOfRange h]
    exact raise_reports _ s

/-- Settles O9: the capture comes first, and the handler, or its absence, decides the outcome. -/
theorem collaboratorAccess : Obligations.CollaboratorAccess := by
  intro s addr g v hr latched
  rw [memRead_collaborator hr, memWrite_collaborator hr, State.captureWrite_of_route hr]
  constructor
  · intro h
    exact ⟨⟨_, handlerRead_of_handler h addr⟩, handlerWrite_of_handler (s := latched) h addr v⟩
  · intro h
    rw [handlerRead_of_no_handler h, handlerWrite_of_no_handler (s := latched) h]
    exact ⟨raise_reports _ s, raise_reports _ latched⟩

/-- Settles O10: both addresses are routed to one cell, which a read after the write finds. -/
theorem echoReadsBack : Obligations.EchoReadsBack := by
  intro s addr v h₁ h₂
  have hn : (addr + 0x2000).toNat = addr.toNat + 0x2000 := by bv_omega
  have hlow : route addr = .ram addr.toNat := route_of_spans (.inl ⟨h₁, by omega, rfl⟩)
  have hecho : route (addr + 0x2000) = .ram addr.toNat := route_of_spans (.inr (.inl ⟨by omega, by omega, by omega⟩))
  have hw := memWrite_ram hlow v s
  have hw' := memWrite_ram hecho v s
  exact ⟨⟨_, hw, memRead_of_memWrite_ram hlow hecho hw, memRead_of_memWrite_ram hlow hlow hw⟩,
    ⟨_, hw', memRead_of_memWrite_ram hecho hlow hw', memRead_of_memWrite_ram hecho hecho hw'⟩⟩

/-- Settles O11: the frame of a write that answers, and of one that raises. -/
theorem writeFrame : Obligations.WriteFrame := by
  intro s addr v
  constructor
  · intro t h
    obtain ⟨hdma, hsvbk⟩ := memWrite_latches h
    exact ⟨fun _ hb => memWrite_bytes h (hb addr (List.mem_singleton_self addr)), hdma, hsvbk, memWrite_next h⟩
  · intro e h b _
    rw [memWrite_fault h]
    exact State.coreByte_congr rfl rfl rfl b

/-- Settles O25: the two writes of `MemWrite(addr, 2, v)`, in order; the first that raises ends it (R57). -/
theorem storeStackPointer : Obligations.StoreStackPointer := by
  intro s a
  have hexec : exec (.ldIndA16Sp a) s = memWrite16 a s.sp s := rfl
  rw [hexec]
  refine ⟨rfl, fun h₁ h₂ => ?_, fun h₁ => ?_, fun t ht h₂ => ?_⟩
  · obtain ⟨t, ht⟩ := memWrite_of_accessible (loByte s.sp) h₁
    have hp : t.platform = s.platform := by rw [memWrite_next ht]
    obtain ⟨u, hu⟩ := memWrite_of_accessible (hiByte s.sp) ((State.accessible_congr hp _).trans h₂)
    exact ⟨t, u, ht, hu, andThen_eq_next.2 ⟨t, ht, hu⟩⟩
  · obtain ⟨e, he⟩ := memWrite_of_not_accessible (loByte s.sp) h₁
    exact ⟨e, he, andThen_eq_fault.2 (.inl he)⟩
  · have hp : t.platform = s.platform := by rw [memWrite_next ht]
    obtain ⟨e, he⟩ := memWrite_of_not_accessible (hiByte s.sp) ((State.accessible_congr hp _).trans h₂)
    exact ⟨e, he, andThen_eq_fault.2 (.inr ⟨t, ht, he⟩)⟩

/-- Settles O57: the bytes of the frame of every instruction. -/
theorem frameMemory : Obligations.FrameMemory := fun _ _ _ h => (exec_frames h).bytes

end Sys2Proof.Machine
end

section
/-! ### O12, O51: the boundary and the fetch -/

namespace Sys2Proof.Machine

/-- Two states with one status that the environment makes equal take the same step (R74). -/
theorem step_congr {s t : State} (hs : s.status = t.status) (h : s.raiseEnvironment = t.raiseEnvironment) : step s = step t := by
  unfold step stepOf
  rw [hs, h]

theorem State.raiseEnvironment_of_nil {s : State} (h : s.envIrq = []) : s.raiseEnvironment = s := by
  unfold State.raiseEnvironment
  rw [h]

theorem State.wake_of_pend_zero {s : State} (h : s.pend = 0) : s.wake = s := if_pos h

theorem State.applyPendingEi_of_not_pending {s : State} (h : s.eiPending = false) : s.applyPendingEi = s :=
  if_neg (Bool.eq_false_iff.1 h)

/-- Settles O51: both sides are one state after the environment has acted. -/
theorem environmentRaisesIf : Obligations.EnvironmentRaisesIf := by
  intro s m rest
  constructor
  · refine step_congr rfl ?_
    simp [State.raiseEnvironment]
  · intro h
    refine step_congr rfl ?_
    rw [State.raiseEnvironment_of_nil h]
    simp [State.raiseEnvironment, ← h]

/-- A step of an awake core with nothing raised and nothing pending is the instruction at `pc` (R270). -/
theorem step_of_quiet {s : State} (hrun : s.status = .running) (henv : s.envIrq = []) (hawake : s.halted = false)
    (hei : s.eiPending = false) (hpend : s.pend = 0) : step s = runInstr s := by
  have hwake : s.wake = s := State.wake_of_pend_zero hpend
  have hdisp : s.wake.toDispatch = none := by
    rw [hwake]
    exact State.toDispatch_eq_none fun h => h.2 hpend
  rw [step_of_running hrun, State.raiseEnvironment_of_nil henv, cycle_of_run hdisp (hwake.symm ▸ hawake), hwake,
    State.applyPendingEi_of_not_pending hei]

/-- Settles O12: the fetch is the read of `pc`, and its Fatal goes through the rest of the step. -/
theorem fetchByte : Obligations.FetchByte := by
  intro s
  refine ⟨fun h => ?_, fun h => (memRead_readStops h).andThen _, fun h hrun henv hawake hei hpend => ?_⟩
  · obtain ⟨v, t, ht⟩ := memRead_of_accessible h
    have hpc : t.pc = s.pc := by rw [memRead_next ht]
    exact ⟨v, t, ht, andThen_eq_next.2 ⟨_, ht, by rw [← hpc]⟩⟩
  · have hstop : ReadStops s s.pc (runInstr s) := (((memRead_readStops h).andThen _).andThen _).andThen _
    obtain ⟨e, hm, hr, hleft⟩ := hstop
    exact ⟨e, hm, (step_of_quiet hrun henv hawake hei hpend).trans hr, by rw [hleft]⟩

end Sys2Proof.Machine
end

section
/-! ### The bytes of each family of rows -/

namespace Sys2Proof

open Machine

/-! #### The encoding of a row, by its operands' indices (R91, R92) -/

theorem encode_mkLd (x y : Loc) : encode (Instr.mkLd x y) = [byteOf (0x40 + 8 * locCode x + locCode y)] := by
  rcases x with (_ | _ | _ | _ | _ | _ | _) | _ <;> rcases y with (_ | _ | _ | _ | _ | _ | _) | _ <;> rfl
theorem encode_mkAlu (k : Alu) (x : Loc) : encode (Instr.mkAlu k x) = [byteOf (0x80 + 8 * aluCode k + locCode x)] := by
  cases k <;> rcases x with (_ | _ | _ | _ | _ | _ | _) | _ <;> rfl
theorem encode_mkAluImm (k : Alu) (d : Byte) : encode (Instr.mkAluImm k d) = [byteOf (0xC6 + 8 * aluCode k), d] := by
  cases k <;> rfl
theorem encode_mkInc (x : Loc) : encode (Instr.mkInc x) = [byteOf (0x04 + 8 * locCode x)] := by
  rcases x with (_ | _ | _ | _ | _ | _ | _) | _ <;> rfl
theorem encode_mkDec (x : Loc) : encode (Instr.mkDec x) = [byteOf (0x05 + 8 * locCode x)] := by
  rcases x with (_ | _ | _ | _ | _ | _ | _) | _ <;> rfl
theorem encode_mkLdImm (x : Loc) (d : Byte) : encode (Instr.mkLdImm x d) = [byteOf (0x06 + 8 * locCode x), d] := by
  rcases x with (_ | _ | _ | _ | _ | _ | _) | _ <;> rfl
theorem encode_mkLdRp (r : Rp) (d : Word) : encode (Instr.mkLdRp r d) = [byteOf (0x01 + 16 * rpCode r), loByte d, hiByte d] := by
  cases r <;> rfl
theorem encode_mkAddHl (r : Rp) : encode (Instr.mkAddHl r) = [byteOf (0x09 + 16 * rpCode r)] := by cases r <;> rfl
theorem encode_mkIncRp (r : Rp) : encode (Instr.mkIncRp r) = [byteOf (0x03 + 16 * rpCode r)] := by cases r <;> rfl
theorem encode_mkDecRp (r : Rp) : encode (Instr.mkDecRp r) = [byteOf (0x0B + 16 * rpCode r)] := by cases r <;> rfl
theorem encode_mkPop (r : Rp2) : encode (Instr.mkPop r) = [byteOf (0xC1 + 16 * rp2Code r)] := by cases r <;> rfl
theorem encode_mkPush (r : Rp2) : encode (Instr.mkPush r) = [byteOf (0xC5 + 16 * rp2Code r)] := by cases r <;> rfl
theorem encode_mkJrCc (cc : Cond) (e : Byte) : encode (Instr.mkJrCc cc e) = [byteOf (0x20 + 8 * condCode cc), e] := by
  cases cc <;> rfl
theorem encode_mkRetCc (cc : Cond) : encode (Instr.mkRetCc cc) = [byteOf (0xC0 + 8 * condCode cc)] := by cases cc <;> rfl
theorem encode_mkJpCc (cc : Cond) (a : Word) : encode (Instr.mkJpCc cc a) = [byteOf (0xC2 + 8 * condCode cc), loByte a, hiByte a] := by
  cases cc <;> rfl
theorem encode_mkCallCc (cc : Cond) (a : Word) :
    encode (Instr.mkCallCc cc a) = [byteOf (0xC4 + 8 * condCode cc), loByte a, hiByte a] := by
  cases cc <;> rfl
theorem encode_mkRst (y : Fin 8) : encode (Instr.mkRst y) = [byteOf (0xC7 + 8 * y.val)] := by fin_cases y <;> rfl
theorem encode_mkRot (k : Rot) (x : Loc) : encode (Instr.mkRot k x) = [0xCB, byteOf (8 * rotCode k + locCode x)] := by
  cases k <;> rcases x with (_ | _ | _ | _ | _ | _ | _) | _ <;> rfl
theorem encode_mkBit (n : Fin 8) (x : Loc) : encode (Instr.mkBit n x) = [0xCB, byteOf (0x40 + 8 * n.val + locCode x)] := by
  fin_cases n <;> rcases x with (_ | _ | _ | _ | _ | _ | _) | _ <;> rfl
theorem encode_mkRes (n : Fin 8) (x : Loc) : encode (Instr.mkRes n x) = [0xCB, byteOf (0x80 + 8 * n.val + locCode x)] := by
  fin_cases n <;> rcases x with (_ | _ | _ | _ | _ | _ | _) | _ <;> rfl
theorem encode_mkSet (n : Fin 8) (x : Loc) : encode (Instr.mkSet n x) = [0xCB, byteOf (0xC0 + 8 * n.val + locCode x)] := by
  fin_cases n <;> rcases x with (_ | _ | _ | _ | _ | _ | _) | _ <;> rfl

/-! #### The operand tables are read by index (R83 to R88) -/

theorem locCode_locOf (z : Fin 8) : locCode (locOf z) = z.val := by fin_cases z <;> rfl
theorem aluCode_aluOf (y : Fin 8) : aluCode (aluOf y) = y.val := by fin_cases y <;> rfl
theorem rotCode_rotOf (y : Fin 8) : rotCode (rotOf y) = y.val := by fin_cases y <;> rfl
theorem rpCode_rpOf (p : Fin 4) : rpCode (rpOf p) = p.val := by fin_cases p <;> rfl
theorem rp2Code_rp2Of (p : Fin 4) : rp2Code (rp2Of p) = p.val := by fin_cases p <;> rfl

/-! #### The fields of an opcode byte (R82) -/

/-- The fields `x`, `y`, `z` are all of an opcode byte. -/
theorem byteOf_fields (op : Byte) : byteOf (64 * (fieldX op).val + 8 * (fieldY op).val + (fieldZ op).val) = op := by
  apply BitVec.eq_of_toNat_eq
  simp only [fieldX, fieldY, fieldZ, BitVec.val_toFin, BitVec.extractLsb'_toNat, BitVec.toNat_ofNat, Nat.shiftRight_eq_div_pow]
  omega

/-- The fields `p`, `q` are the field `y`. -/
theorem fieldY_val (op : Byte) : (fieldY op).val = 2 * (fieldP op).val + (fieldQ op).val := by
  simp only [fieldY, fieldP, fieldQ, BitVec.val_toFin, BitVec.extractLsb'_toNat, Nat.shiftRight_eq_div_pow]
  omega

end Sys2Proof
end

section
/-! ### The decoder undone by the encoder -/

namespace Sys2Proof

open Machine

/-! #### The unprefixed table -/

/-- The instructions of the entry have the opcode byte `op`, and after it the operand bytes that the entry calls for (R81, R90). Of an
entry without operands this is the first byte alone: the encoding of STOP has a second one, which is no operand (R96, R262). -/
def Row.Encodes (op : Byte) : Row → Prop
  | .whole i => (encode i).head? = some op
  | .byteOperand f => ∀ d, encode (f d) = [op, d]
  | .wordOperand f => ∀ w, encode (f w) = [op, loByte w, hiByte w]
  | .cbPrefix => op = 0xCB

theorem Row.Encodes.whole {i : Instr} {m n : Nat} (h : encode i = [byteOf m]) (hmn : m = n) : Row.Encodes (byteOf n) (.whole i) := by
  show (encode i).head? = _
  rw [h, hmn]
  rfl

theorem Row.Encodes.byteOperand {f : Byte → Instr} {m n : Nat} (h : ∀ d, encode (f d) = [byteOf m, d]) (hmn : m = n) :
    Row.Encodes (byteOf n) (.byteOperand f) := hmn ▸ h

theorem Row.Encodes.wordOperand {f : Word → Instr} {m n : Nat} (h : ∀ w, encode (f w) = [byteOf m, loByte w, hiByte w]) (hmn : m = n) :
    Row.Encodes (byteOf n) (.wordOperand f) := hmn ▸ h

/-- Every entry of the table encodes to the byte that selects it, by the blocks of the table: the case `h_(n+1)` of a field is its
value `n`. In a block of single rows the byte is a constant; in a block over operands it is linear in their indices. -/
theorem unprefixed_encodes (op : Byte) : (unprefixed op).Encodes op := by
  have hop := byteOf_fields op
  have hpq := fieldY_val op
  unfold unprefixed
  generalize fieldX op = x, fieldY op = y, fieldZ op = z, fieldP op = p, fieldQ op = q at *
  subst hop
  have hloc := locCode_locOf y
  have hloc' := locCode_locOf z
  have halu := aluCode_aluOf y
  have hrp := rpCode_rpOf p
  have hrp2 := rp2Code_rp2Of p
  split
  · split
    case h_2 =>
      split
      · exact .wordOperand (encode_mkLdRp _) (by omega)
      · exact .whole (encode_mkAddHl _) (by omega)
    case h_3 => split <;> rw [hpq] <;> rfl
    case h_4 =>
      split
      · exact .whole (encode_mkIncRp _) (by omega)
      · exact .whole (encode_mkDecRp _) (by omega)
    case h_5 => exact .whole (encode_mkInc _) (by omega)
    case h_6 => exact .whole (encode_mkDec _) (by omega)
    case h_7 => exact .byteOperand (encode_mkLdImm _) (by omega)
    all_goals split <;> dsimp only [Row.Encodes] <;> intros <;> rfl
  · exact .whole (encode_mkLd _ _) (by omega)
  · exact .whole (encode_mkAlu _ _) (by omega)
  · split
    case h_2 =>
      split
      · exact .whole (encode_mkPop _) (by omega)
      all_goals rw [hpq]; rfl
    case h_6 =>
      split
      · exact .whole (encode_mkPush _) (by omega)
      all_goals rw [hpq]; dsimp only [Row.Encodes]; intros; rfl
    case h_7 => exact .byteOperand (encode_mkAluImm _) (by omega)
    case h_8 => exact .whole (encode_mkRst _) (by omega)
    all_goals split <;> dsimp only [Row.Encodes] <;> intros <;> rfl

theorem fetchedBytes_of_ne_stop {i : Instr} (h : i ≠ .stop) : fetchedBytes i = (encode i).length := by
  unfold fetchedBytes
  split
  · exact absurd rfl h
  · rfl

/-- A row without operands is its opcode byte, except STOP. -/
theorem encode_of_whole {op : Byte} {i : Instr} (hu : unprefixed op = .whole i) (hs : i ≠ .stop) : encode i = [op] := by
  have henc := unprefixed_encodes op
  have hfetch := unprefixed_fetched op
  rw [hu] at henc hfetch
  have hlen : (encode i).length = 1 := (fetchedBytes_of_ne_stop hs).symm.trans hfetch
  obtain ⟨b, hb⟩ := List.length_eq_one_iff.1 hlen
  have hbop : some b = some op := (congrArg List.head? hb).symm.trans henc
  rw [hb, Option.some.inj hbop]

/-! #### The CB table -/

/-- The second byte of a CB row may be computed in another way. -/
theorem encode_eq_of_code_eq {i : Instr} {m n : Nat} (h : encode i = [0xCB, byteOf m]) (hmn : m = n) : encode i = [0xCB, byteOf n] :=
  hmn ▸ h

/-- Every entry of the CB table encodes to 0xCB and the byte that selects it (R92, R94). -/
theorem encode_prefixed (op2 : Byte) : encode (prefixed op2) = [0xCB, op2] := by
  have hop := byteOf_fields op2
  unfold prefixed
  generalize fieldX op2 = x, fieldY op2 = y, fieldZ op2 = z at *
  subst hop
  have hloc := locCode_locOf z
  have hrot := rotCode_rotOf y
  split
  · exact encode_eq_of_code_eq (encode_mkRot _ _) (by omega)
  · exact encode_eq_of_code_eq (encode_mkBit _ _) (by omega)
  · exact encode_eq_of_code_eq (encode_mkRes _ _) (by omega)
  · exact encode_eq_of_code_eq (encode_mkSet _ _) (by omega)

/-! #### The length by the first byte (R80) -/

theorem lengthOf_whole {op : Byte} {i : Instr} (hu : unprefixed op = .whole i) (hs : i ≠ .stop) : lengthOf op = 1 := by
  unfold lengthOf
  rw [hu]
  split
  case h_1 h => exact absurd (Row.whole.inj h) hs
  case h_2 => rfl
  case h_3 h | h_4 h | h_5 h => cases h

theorem lengthOf_byteOperand {op : Byte} {f : Byte → Instr} (hu : unprefixed op = .byteOperand f) : lengthOf op = 2 := by
  unfold lengthOf
  rw [hu]

theorem lengthOf_wordOperand {op : Byte} {f : Word → Instr} (hu : unprefixed op = .wordOperand f) : lengthOf op = 3 := by
  unfold lengthOf
  rw [hu]

theorem lengthOf_bounds (op : Byte) : 1 ≤ lengthOf op ∧ lengthOf op ≤ 3 := by
  unfold lengthOf
  split <;> decide

/-! #### What a list of bytes decodes to -/

/-- What decodes has the length its first byte says, and its encoding begins the bytes. The exceptions are STOP, of which the first byte
alone is read (R262), and the byte 0xCB with nothing after it (R90). -/
theorem decode_cons_eq_ok {op : Byte} {rest : List Byte} {i : Instr} (h : decode (op :: rest) = .ok i) :
    ((encode i).length = lengthOf op ∧ ∃ tl, op :: rest = encode i ++ tl) ∨
      (i = .stop ∧ op = 0x10) ∨ (i = .prefixCb ∧ rest = []) := by
  have henc := unprefixed_encodes op
  unfold decode at h
  dsimp only at h
  split at h <;> cases h
  case h_1 hu =>
    by_cases hs : i = .stop
    · rw [hu, hs] at henc
      cases henc
      exact .inr (.inl ⟨hs, rfl⟩)
    · rw [encode_of_whole hu hs, lengthOf_whole hu hs]
      exact .inl ⟨rfl, _, rfl⟩
  case h_2 f d tl hu =>
    rw [hu] at henc
    rw [henc d, lengthOf_byteOperand hu]
    exact .inl ⟨rfl, tl, rfl⟩
  case h_4 f lo hi tl hu =>
    rw [hu] at henc
    rw [henc, loByte_joinBytes, hiByte_joinBytes, lengthOf_wordOperand hu]
    exact .inl ⟨rfl, tl, rfl⟩
  case h_6 op2 tl hu =>
    rw [hu] at henc
    cases henc
    rw [encode_prefixed]
    exact .inl ⟨rfl, tl, rfl⟩
  case h_7 => exact .inr (.inr ⟨rfl, rfl⟩)

theorem Instr.wellFormed_of_ne {i : Instr} (h : i ≠ .prefixCb) : i.wellFormed = true := by
  unfold wellFormed
  split
  · exact absurd rfl h
  · rfl

/-- Three bytes are as many as any opcode calls for (R80, R90). -/
theorem decode_three (b0 b1 b2 : Byte) (rest : List Byte) : ∃ i, decode (b0 :: b1 :: b2 :: rest) = .ok i := by
  unfold decode
  dsimp only
  cases unprefixed b0 <;> exact ⟨_, rfl⟩

/-- The byte 0xCB with another after it begins a CB row (R94). -/
theorem ne_prefixCb_of_decode {b0 b1 : Byte} {rest : List Byte} {i : Instr} (h : decode (b0 :: b1 :: rest) = .ok i) : i ≠ .prefixCb := by
  rintro rfl
  obtain ⟨hlen, tl, hb⟩ | ⟨hs, -⟩ | ⟨-, hr⟩ := decode_cons_eq_ok h
  · cases hb
    cases hlen
  · cases hs
  · cases hr

theorem length_encode_of_decode {op : Byte} {rest : List Byte} {i : Instr} (h : decode (op :: rest) = .ok i) (hw : i.wellFormed = true) :
    (encode i).length = lengthOf op := by
  obtain ⟨hlen, -⟩ | ⟨rfl, rfl⟩ | ⟨rfl, -⟩ := decode_cons_eq_ok h
  · exact hlen
  · rfl
  · cases hw

/-- The length of a whole instruction is what its own first byte says: it decodes from its encoding. -/
theorem length_encode {i : Instr} (hw : i.wellFormed = true) : ∃ op, (encode i).head? = some op ∧ (encode i).length = lengthOf op := by
  have hd : decode (encode i ++ []) = .ok i := decode_encode_append i hw []
  rw [List.append_nil] at hd
  generalize hb : encode i = bytes at hd
  cases bytes with
  | nil => cases hd
  | cons op rest => exact ⟨op, rfl, hb ▸ length_encode_of_decode hd hw⟩

/-! #### The eleven unassigned bytes (R93) -/

/-- The first bytes of the unprefixed table with no instruction. -/
def unassignedBytes : List Byte := [0xD3, 0xDB, 0xDD, 0xE3, 0xE4, 0xEB, 0xEC, 0xED, 0xF4, 0xFC, 0xFD]

theorem encode_of_not_assigned {i : Instr} (h : i.assigned = false) : ∃ b ∈ unassignedBytes, encode i = [b] := by
  unfold Instr.assigned at h
  split at h
  case h_12 => cases h
  all_goals
    refine ⟨_, ?_, rfl⟩
    decide

theorem not_assigned_of_decode {b0 : Byte} {rest : List Byte} {i : Instr} (h : decode (b0 :: rest) = .ok i)
    (hb : b0 ∈ unassignedBytes) : i.assigned = false := by
  simp only [unassignedBytes, List.mem_cons, List.not_mem_nil, or_false] at hb
  rcases hb with rfl | rfl | rfl | rfl | rfl | rfl | rfl | rfl | rfl | rfl | rfl
  all_goals
    cases h
    rfl

end Sys2Proof
end

section
/-! ### O1 to O5: encoding -/

namespace Sys2Proof

/-- Settles O1, by the round trip of each constructor. -/
theorem decodeOfEncode : Obligations.DecodeOfEncode := fun i rest hw => decode_encode_append i hw rest

/-- Settles O2: the inversion of `decode`, the byte 0xCB alone being ill-formed. -/
theorem encodeOfDecode : Obligations.EncodeOfDecode := by
  intro bytes i h hw
  cases bytes with
  | nil => cases h
  | cons op rest =>
    obtain ⟨-, hb⟩ | ⟨hs, rfl⟩ | ⟨rfl, -⟩ := decode_cons_eq_ok h
    · exact .inl hb
    · exact .inr ⟨hs, rest, rfl⟩
    · cases hw

/-- Settles O3: an unassigned row is its byte alone, which the bytes begin with; each of the eleven bytes decodes to its row. -/
theorem decodeTotalElevenUnassigned : Obligations.DecodeTotalElevenUnassigned := by
  intro b0 b1 b2 rest
  obtain ⟨i, h⟩ := decode_three b0 b1 b2 rest
  refine ⟨i, h, Instr.wellFormed_of_ne (ne_prefixCb_of_decode h), fun ha => ?_, not_assigned_of_decode h⟩
  obtain ⟨b, hb, hi⟩ := encode_of_not_assigned ha
  obtain ⟨-, tl, ht⟩ | ⟨rfl, -⟩ | ⟨-, hr⟩ := decode_cons_eq_ok h
  · rw [hi] at ht
    cases ht
    exact hb
  · cases ha
  · cases hr

/-- Settles O4: both lengths are `lengthOf` of the first byte. -/
theorem lengthFromFirstByte : Obligations.LengthFromFirstByte := by
  intro i j hi hj
  obtain ⟨op, hop, hlen⟩ := length_encode hi
  obtain ⟨op', hop', hlen'⟩ := length_encode hj
  rw [hop, hop', hlen, hlen']
  refine ⟨(lengthOf_bounds op).1, (lengthOf_bounds op).2, fun h => ?_, fun h => ?_⟩
  · rw [Option.some.inj h]
  · rw [Option.some.inj h]
    rfl

/-- Settles O5: the decoder evaluates each byte sequence to its row. -/
theorem writtenWordsDecode : Obligations.WrittenWordsDecode :=
  ⟨rfl, rfl, rfl, rfl, rfl, rfl, rfl, rfl, rfl, rfl, rfl, rfl⟩

end Sys2Proof
end

section
/-! ### The 8-bit computations in plain numbers (40_arith8.md, 41_logic8.md) -/

namespace Sys2Proof.Machine

/-! #### Narrowed numbers -/

theorem decide_ofNat_eq_zero (n : Nat) : decide (BitVec.ofNat 8 n = 0) = (n % 256 == 0) := by
  rw [beq_eq_decide, decide_eq_decide, ← BitVec.toNat_inj, BitVec.toNat_ofNat]
  rfl

/-- Narrowing is modulo 256. -/
theorem byteOf_mod (n : Nat) : byteOf (n % 256) = BitVec.ofNat 8 n := by
  apply BitVec.eq_of_toNat_eq
  simp

/-! #### Addition and subtraction (R110, R111) -/

variable (a b : Byte) (cin : Bool)

theorem add8_toNat : (add8 a b cin).1.toNat = (a.toNat + b.toNat + cin.toNat) % 256 := BitVec.toNat_ofNat _ _

theorem add8_toByte : (add8 a b cin).2.toByte = flagByte ((a.toNat + b.toNat + cin.toNat) % 256 == 0) false
    (decide (a.toNat % 16 + b.toNat % 16 + cin.toNat > 0xF)) (decide (a.toNat + b.toNat + cin.toNat > 0xFF)) := by
  rw [Flags.toByte_eq_flagByte, ← decide_ofNat_eq_zero]
  rfl

/-- The difference in natural numbers: 512 keeps it from falling below zero, and is lost modulo 256. -/
theorem sub8_fst : (sub8 a b cin).1 = BitVec.ofNat 8 (a.toNat + 512 - b.toNat - cin.toNat) := by
  apply BitVec.eq_of_toNat_eq
  have hb := b.isLt
  have hc := cin.toNat_le
  show (BitVec.ofInt 8 _).toNat = _
  rw [BitVec.toNat_ofInt, BitVec.toNat_ofNat]
  omega

theorem sub8_toNat : (sub8 a b cin).1.toNat = (a.toNat + 512 - b.toNat - cin.toNat) % 256 := by
  rw [sub8_fst, BitVec.toNat_ofNat]

theorem sub8_toByte : (sub8 a b cin).2.toByte = flagByte ((a.toNat + 512 - b.toNat - cin.toNat) % 256 == 0) true
    (decide (a.toNat % 16 < b.toNat % 16 + cin.toNat)) (decide (a.toNat < b.toNat + cin.toNat)) := by
  rw [Flags.toByte_eq_flagByte, ← decide_ofNat_eq_zero, ← sub8_fst]
  rfl

/-- Without a borrow in, the difference is zero exactly where the numbers are equal (R115, R124). -/
theorem sub8_false_toByte : (sub8 a b false).2.toByte =
    flagByte (a.toNat == b.toNat) true (decide (a.toNat % 16 < b.toNat % 16)) (decide (a.toNat < b.toNat)) := by
  have hz : ((a.toNat + 512 - b.toNat - false.toNat) % 256 == 0) = (a.toNat == b.toNat) := by
    have ha := a.isLt
    have hb := b.isLt
    rw [Bool.toNat_false, beq_eq_decide, beq_eq_decide, decide_eq_decide]
    omega
  rw [sub8_toByte, hz]
  rfl

theorem sub8_false_toNat : (sub8 a b false).1.toNat = (a.toNat + 256 - b.toNat) % 256 := by
  have hb := b.isLt
  rw [sub8_toNat, Bool.toNat_false]
  omega

/-! #### The eight operations on `A` -/

/-- What an operation leaves in `A` and `F` is what the rules say (R112 to R126, R140 to R148). -/
theorem State.applyAlu_effect (s : State) (k : Alu) (v : Byte) :
    AluEffect k s.a v s.carry (s.applyAlu k v).a (s.applyAlu k v).f := by
  cases k with
  | add => exact ⟨add8_toNat s.a v false, add8_toByte s.a v false⟩
  | adc => exact ⟨add8_toNat s.a v s.carry, add8_toByte s.a v s.carry⟩
  | sub => exact ⟨sub8_false_toNat s.a v, sub8_false_toByte s.a v⟩
  | sbc => exact ⟨sub8_toNat s.a v s.carry, sub8_toByte s.a v s.carry⟩
  | and | xor | or => exact ⟨rfl, Flags.toByte_eq_flagByte _⟩
  | cp => exact ⟨rfl, sub8_false_toByte s.a v⟩

/-! #### Increment and decrement (R127, R129) -/

theorem inc8_fst (v : Byte) (old : Flags) : (inc8 v old).1 = byteOf ((v.toNat + 1) % 256) := (byteOf_mod _).symm

theorem inc8_toByte (v : Byte) (old : Flags) :
    (inc8 v old).2.toByte = flagByte ((v.toNat + 1) % 256 == 0) false (v.toNat % 16 == 15) old.c := by
  rw [Flags.toByte_eq_flagByte, ← decide_ofNat_eq_zero]
  rfl

theorem dec8_fst (v : Byte) (old : Flags) : (dec8 v old).1 = byteOf ((v.toNat + 255) % 256) := by
  apply BitVec.eq_of_toNat_eq
  show (BitVec.ofInt 8 _).toNat = _
  rw [byteOf_mod, BitVec.toNat_ofInt, BitVec.toNat_ofNat]
  omega

theorem dec8_toByte (v : Byte) (old : Flags) :
    (dec8 v old).2.toByte = flagByte ((v.toNat + 255) % 256 == 0) true (v.toNat % 16 == 0) old.c := by
  rw [Flags.toByte_eq_flagByte, ← decide_ofNat_eq_zero, ← byteOf_mod, ← dec8_fst v old]
  rfl

end Sys2Proof.Machine
end

section
/-! ### O13 to O17, O20: the operations -/

namespace Sys2Proof.Machine

/-- Settles O13: a register operand is read without an access. -/
theorem aluRegister : Obligations.AluRegister := by
  intro s k r
  refine ⟨encode_mkAlu k (.reg r), _, _, s.applyAlu_effect k (s.reg8 r), ?_⟩
  rw [exec_mkAlu]
  rfl

/-- Settles O14: the read of `HL` decides the outcome, and leaves `A` and `F`. -/
theorem aluIndirect : Obligations.AluIndirect := by
  intro s k
  rw [exec_mkAlu]
  refine ⟨encode_mkAlu k .indHl, fun h => ?_, fun h => (memRead_readStops h).andThen _⟩
  obtain ⟨v, t, hr⟩ := memRead_of_accessible h
  have heff := t.applyAlu_effect k v
  have ha : t.a = s.a := by rw [memRead_next hr]
  have hf : t.carry = s.carry := by
    rw [memRead_next hr]
    rfl
  rw [ha, hf] at heff
  exact ⟨v, t, _, _, hr, heff, andThen_eq_next.2 ⟨_, hr, rfl⟩⟩

/-- Settles O15: an immediate has been fetched. -/
theorem aluImmediate : Obligations.AluImmediate := by
  intro s k d
  refine ⟨encode_mkAluImm k d, _, _, s.applyAlu_effect k d, ?_⟩
  rw [exec_mkAluImm]
  rfl

/-- A read-modify-write of a register writes the register, then `F`. -/
theorem modify8_reg (r : Reg8) (g : Byte → Flags → Byte × Flags) (s : State) :
    modify8 (.reg r) g s = .next { s.setReg8 r (g (s.reg8 r) s.flags).1 with f := (g (s.reg8 r) s.flags).2.toByte } := rfl

/-- A read-modify-write of the byte at `HL` is one read and one write of the same address, then `F`; where the address cannot be
accessed, the read raises (R128). -/
theorem modify8_indHl (g : Byte → Flags → Byte × Flags) (s : State) :
    Modifies s (fun v => (g v s.flags).1) (fun v u => { u with f := (g v s.flags).2.toByte }) (modify8 .indHl g s) := by
  refine ⟨fun h => ?_, fun h => (memRead_readStops h).andThen _⟩
  obtain ⟨v, t, hr⟩ := memRead_of_accessible h
  have ht := memRead_next hr
  have hhl : t.hl = s.hl := by
    rw [ht]
    rfl
  have hfl : t.flags = s.flags := by
    rw [ht]
    rfl
  have hp : t.platform = s.platform := by rw [ht]
  obtain ⟨u, hw⟩ := memWrite_of_accessible (g v s.flags).1 ((State.accessible_congr hp _).trans h)
  refine ⟨v, t, u, hr, hw, andThen_eq_next.2 ⟨_, hr, ?_⟩⟩
  dsimp only
  rw [hfl]
  refine andThen_eq_next.2 ⟨u, ?_, rfl⟩
  rw [← hw, ← hhl]
  rfl

/-- Settles O16: the register and the flags, computed in plain numbers. -/
theorem incDecRegister : Obligations.IncDecRegister := by
  intro s r v
  refine ⟨encode_mkInc (.reg r), encode_mkDec (.reg r), ?_, ?_⟩
  · rw [exec_mkInc, Operand8.ofLoc, modify8_reg, inc8_fst, inc8_toByte]
    rfl
  · rw [exec_mkDec, Operand8.ofLoc, modify8_reg, dec8_fst, dec8_toByte]
    rfl

/-- Settles O17: both are read-modify-writes of the byte at `HL`. -/
theorem incDecIndirect : Obligations.IncDecIndirect := by
  intro s
  have hinc := modify8_indHl inc8 s
  have hdec := modify8_indHl dec8 s
  simp only [inc8_fst, inc8_toByte] at hinc
  simp only [dec8_fst, dec8_toByte] at hdec
  exact ⟨rfl, rfl, hinc, hdec⟩

/-- `set_flags` writes the flag byte by weights (R12, R19). -/
theorem State.setFlags_eq (s : State) (fl : Flags) : s.setFlags fl = { s with f := flagByte fl.z fl.n fl.h fl.c } :=
  congrArg (fun v => { s with f := v }) fl.toByte_eq_flagByte

/-- Settles O20: each meaning gives `F` by its flags. -/
theorem scfCcfCpl : Obligations.ScfCcfCpl := fun s =>
  ⟨rfl, rfl, rfl, congrArg Host.Outcome.next (s.setFlags_eq _), congrArg Host.Outcome.next (s.setFlags_eq _),
    congrArg Host.Outcome.next (State.setFlags_eq { s with a := s.a ^^^ 0xFF } _)⟩

end Sys2Proof.Machine
end

section
/-! ### O18, O19: the decimal adjustment (40_arith8.md rule R131) -/

namespace Sys2Proof.Machine

/-! #### The two corrections -/

section
variable {a : Byte} {fl : Flags}

theorem daa_carry_of_add (hn : fl.n = false) : (daa a fl).2.c = decide (fl.c = true ∨ a.toNat > 0x99) := by
  simp [daa, hn, Bool.decide_or]

theorem daa_carry_of_sub (hn : fl.n = true) : (daa a fl).2.c = fl.c := by
  simp [daa, hn]

/-- After an addition, the tests of the byte are of the byte before the corrections. -/
theorem daa_fst_of_add (hn : fl.n = false) : (daa a fl).1 =
    a + (if fl.c = true ∨ a.toNat > 0x99 then 0x60 else 0) + (if fl.h = true ∨ a.toNat % 16 > 9 then 0x06 else 0) := by
  apply BitVec.eq_of_toNat_eq
  simp only [daa, hn, Bool.not_false, Bool.true_and, Bool.or_eq_true, decide_eq_true_eq, Bool.false_eq_true, if_false]
  split <;> split <;> simp [BitVec.toNat_add, Nat.add_assoc]

/-- After a subtraction, no test of the byte corrects it. -/
theorem daa_fst_of_sub (hn : fl.n = true) :
    (daa a fl).1 = a - (if fl.c = true then 0x60 else 0) - (if fl.h = true then 0x06 else 0) := by
  apply BitVec.eq_of_toNat_eq
  simp only [daa, hn, Bool.not_true, Bool.false_and, Bool.or_false, if_true, BitVec.toNat_ofInt]
  split <;> split <;> simp [BitVec.toNat_sub] <;> omega

theorem daa_toByte : (daa a fl).2.toByte = flagByte ((daa a fl).1 == 0) fl.n false (daa a fl).2.c := by
  rw [Flags.toByte_eq_flagByte, beq_eq_decide]
  rfl

/-- The rule's order after an addition: the first correction does not change the low digit, which the second tests. -/
theorem daa_of_add (hn : fl.n = false) :
    let p : Byte × Bool := if fl.c = true ∨ a.toNat > 0x99 then (a + 0x60, true) else (a, fl.c)
    (if fl.h = true ∨ p.1.toNat % 16 > 9 then p.1 + 0x06 else p.1, p.2) = ((daa a fl).1, (daa a fl).2.c) := by
  have hlow : (a + 0x60).toNat % 16 = a.toNat % 16 := by bv_omega
  rw [daa_fst_of_add hn, daa_carry_of_add hn]
  by_cases hhigh : fl.c = true ∨ a.toNat > 0x99
  · simp only [if_pos hhigh, decide_eq_true hhigh]
    rw [hlow]
    split <;> simp
  · have hc : fl.c = false := Bool.eq_false_iff.2 fun h => hhigh (.inl h)
    simp only [if_neg hhigh, decide_eq_false hhigh]
    rw [hc]
    split <;> simp

/-- The rule's order after a subtraction. -/
theorem daa_of_sub (hn : fl.n = true) :
    let b := if fl.c = true then a - 0x60 else a
    (if fl.h = true then b - 0x06 else b, fl.c) = ((daa a fl).1, (daa a fl).2.c) := by
  rw [daa_fst_of_sub hn, daa_carry_of_sub hn]
  dsimp only
  split <;> split <;> simp

end

/-- DAA adjusts `A` and `F` (R131). -/
theorem exec_daa (s : State) : exec .daa s = .next { s with a := (daa s.a s.flags).1, f := (daa s.a s.flags).2.toByte } := rfl

/-- Settles O18: the two corrections, after an addition or a subtraction. -/
theorem decimalAdjust : Obligations.DecimalAdjust := by
  intro s r
  have hr : r = ((daa s.a s.flags).1, (daa s.a s.flags).2.c) := by
    cases hn : s.subtract with
    | false => exact (if_pos hn).trans (daa_of_add (a := s.a) (fl := s.flags) hn)
    | true => exact (if_neg (by simp [hn])).trans (daa_of_sub (a := s.a) (fl := s.flags) hn)
  rw [exec_daa, daa_toByte, hr]
  exact ⟨rfl, rfl⟩

/-! #### Decimal digits -/

/-- A two-digit number in BCD. -/
def bcdByte (n : Nat) : Byte := byteOf (16 * (n / 10) + n % 10)

theorem bcdByte_toNat {n : Nat} (h : n < 100) : (bcdByte n).toNat = 16 * (n / 10) + n % 10 := by
  rw [bcdByte, BitVec.toNat_ofNat]
  omega

section
variable {x y : Nat} (hx : x < 100) (hy : y < 100) (cin : Bool)
include hx hy

/-- After an addition in BCD, the high correction is made exactly where the decimal sum has three digits. -/
theorem add8_bcd_high :
    let r := add8 (bcdByte x) (bcdByte y) cin
    r.2.c = true ∨ r.1.toNat > 0x99 ↔ 100 ≤ x + y + cin.toNat := by
  intro r
  have hc : r.2.c = true ↔ (bcdByte x).toNat + (bcdByte y).toNat + cin.toNat > 0xFF := decide_eq_true_iff
  have hpassed : ∀ n : Nat, n > 0xFF ∨ n % 256 > 0x99 ↔ n > 0x99 := by omega
  have hcin := cin.toNat_le
  rw [hc, add8_toNat, hpassed, bcdByte_toNat hx, bcdByte_toNat hy]
  rcases Nat.lt_or_ge (x / 10 + y / 10) 10 with hdigits | hdigits <;> omega

/-- After an addition in BCD, the low correction is made exactly where the low digits have a decimal carry. -/
theorem add8_bcd_low :
    let r := add8 (bcdByte x) (bcdByte y) cin
    r.2.h = true ∨ r.1.toNat % 16 > 9 ↔ 10 ≤ x % 10 + y % 10 + cin.toNat := by
  intro r
  have hh : r.2.h = true ↔ (bcdByte x).toNat % 16 + (bcdByte y).toNat % 16 + cin.toNat > 0xF := decide_eq_true_iff
  have hcin := cin.toNat_le
  rw [hh, add8_toNat, bcdByte_toNat hx, bcdByte_toNat hy]
  omega

/-- DAA makes of the sum of two BCD numbers the BCD of the sum, with the decimal carry. -/
theorem daa_add8_bcd :
    let r := add8 (bcdByte x) (bcdByte y) cin
    (daa r.1 r.2).1 = bcdByte ((x + y + cin.toNat) % 100) ∧ (daa r.1 r.2).2.c = decide (100 ≤ x + y + cin.toNat) := by
  intro r
  have hn : r.2.n = false := rfl
  have hhigh : r.2.c = true ∨ r.1.toNat > 0x99 ↔ _ := add8_bcd_high hx hy cin
  have hlow : r.2.h = true ∨ r.1.toNat % 16 > 9 ↔ _ := add8_bcd_low hx hy cin
  have hr : r.1.toNat = _ := add8_toNat (bcdByte x) (bcdByte y) cin
  have hsum := Nat.mod_lt (x + y + cin.toNat) (by decide : 100 > 0)
  have hcin := cin.toNat_le
  simp only [daa_fst_of_add hn, daa_carry_of_add hn, hhigh, hlow, and_true]
  apply BitVec.eq_of_toNat_eq
  rw [BitVec.toNat_add, BitVec.toNat_add, hr, bcdByte_toNat hx, bcdByte_toNat hy, bcdByte_toNat hsum]
  split <;> split <;> bv_omega

/-- After a subtraction in BCD, the borrows are the decimal borrows. -/
theorem sub8_bcd_borrows :
    let r := sub8 (bcdByte x) (bcdByte y) cin
    r.2.c = decide (x < y + cin.toNat) ∧ r.2.h = decide (x % 10 < y % 10 + cin.toNat) := by
  intro r
  have hc : r.2.c = decide ((bcdByte x).toNat < (bcdByte y).toNat + cin.toNat) := rfl
  have hh : r.2.h = decide ((bcdByte x).toNat % 16 < (bcdByte y).toNat % 16 + cin.toNat) := rfl
  have hcin := cin.toNat_le
  rw [hc, hh, bcdByte_toNat hx, bcdByte_toNat hy, decide_eq_decide, decide_eq_decide]
  omega

/-- DAA makes of the difference of two BCD numbers the BCD of the difference, with the decimal borrow. -/
theorem daa_sub8_bcd :
    let r := sub8 (bcdByte x) (bcdByte y) cin
    (daa r.1 r.2).1 = bcdByte ((x + 200 - y - cin.toNat) % 100) ∧ (daa r.1 r.2).2.c = decide (x < y + cin.toNat) := by
  intro r
  have hn : r.2.n = true := rfl
  obtain ⟨hc, hh⟩ : r.2.c = _ ∧ r.2.h = _ := sub8_bcd_borrows hx hy cin
  have hr : r.1.toNat = _ := sub8_toNat (bcdByte x) (bcdByte y) cin
  have hdiff := Nat.mod_lt (x + 200 - y - cin.toNat) (by decide : 100 > 0)
  have hcin := cin.toNat_le
  simp only [daa_fst_of_sub hn, daa_carry_of_sub hn, hc, hh, decide_eq_true_eq, and_true]
  apply BitVec.eq_of_toNat_eq
  rw [BitVec.toNat_sub, BitVec.toNat_sub, hr, bcdByte_toNat hx, bcdByte_toNat hy, bcdByte_toNat hdiff]
  split <;> split <;> bv_omega

end

/-- DAA after an operation that writes `A` adjusts the result of that operation by its flags. -/
theorem exec_mkAlu_daa (s : State) {k : Alu} (hk : aluWritesA k = true) (r : Reg8) :
    let p := aluResult k s.a (s.reg8 r) s.carry
    ∃ t u, exec (Instr.mkAlu k (.reg r)) s = .next t ∧ exec .daa t = .next u ∧
      u.a = (daa p.1 p.2).1 ∧ u.carry = (daa p.1 p.2).2.c := by
  intro p
  have ht : s.applyAlu k (s.reg8 r) = { s with a := p.1 }.setFlags p.2 := by
    rw [State.applyAlu, hk]
    rfl
  have hd : daa (s.applyAlu k (s.reg8 r)).a (s.applyAlu k (s.reg8 r)).flags = daa p.1 p.2 := by
    rw [ht, State.flags_setFlags, State.setFlags_a]
  refine ⟨s.applyAlu k (s.reg8 r), _, exec_mkAlu k (.reg r) s, exec_daa _, congrArg Prod.fst hd, ?_⟩
  rw [hd]
  exact congrArg Flags.c (s.flags_setFlags (daa p.1 p.2).2)

/-- Settles O19: DAA adjusts the result of the operation on the two BCD numbers. -/
theorem decimalAdjustGivesBcd : Obligations.DecimalAdjustGivesBcd := by
  intro s r x y hx hy bcd ha hb
  change s.a = bcdByte x at ha
  change s.reg8 r = bcdByte y at hb
  constructor
  · obtain ⟨t, u, ht, hu, hres, hcarry⟩ := exec_mkAlu_daa s (k := .adc) rfl r
    obtain ⟨hsum, hover⟩ := daa_add8_bcd hx hy s.carry
    rw [ha, hb] at hres hcarry
    exact ⟨t, u, ht, hu, hres.trans hsum, hcarry.trans hover⟩
  · obtain ⟨t, u, ht, hu, hres, hcarry⟩ := exec_mkAlu_daa s (k := .sbc) rfl r
    obtain ⟨hdiff, hborrow⟩ := daa_sub8_bcd hx hy s.carry
    rw [ha, hb] at hres hcarry
    exact ⟨t, u, ht, hu, hres.trans hdiff, hcarry.trans hborrow⟩

end Sys2Proof.Machine
end

section
/-! ### O21 to O23: 16-bit arithmetic (42_arith16.md) -/

namespace Sys2Proof.Machine

/-! #### Words as numbers -/

theorem loByte_ofNat (n : Nat) : loByte (BitVec.ofNat 16 n) = byteOf (n % 256) := by
  apply BitVec.eq_of_toNat_eq
  simp only [loByte, BitVec.extractLsb'_toNat, BitVec.toNat_ofNat]
  omega

theorem hiByte_ofNat (n : Nat) : hiByte (BitVec.ofNat 16 n) = byteOf (n % 65536 / 256) := by
  apply BitVec.eq_of_toNat_eq
  simp only [hiByte, BitVec.extractLsb'_toNat, BitVec.toNat_ofNat, Nat.shiftRight_eq_div_pow]

/-- A write of `HL` writes the two bytes of the number (R13). -/
theorem State.setHl_ofNat (s : State) (n : Nat) :
    s.setHl (BitVec.ofNat 16 n) = { s with h := byteOf (n % 65536 / 256), l := byteOf (n % 256) } := by
  rw [State.setHl, hiByte_ofNat, loByte_ofNat]

/-- Subtracting one is adding 65535 modulo 65536. -/
theorem sub_one_eq_ofNat (w : Word) : w - 1 = BitVec.ofNat 16 (w.toNat + 65535) := by
  rw [BitVec.sub_def, Nat.add_comm]
  rfl

/-- The sign of a displacement fills the high byte. -/
theorem sext16_toNat (e : Byte) : (sext16 e).toNat = e.toNat + if 128 ≤ e.toNat then 0xFF00 else 0 := by
  rw [sext16, BitVec.toNat_signExtend, BitVec.toNat_setWidth_of_le (by decide), BitVec.msb_eq_decide]
  simp only [decide_eq_true_eq]

/-- `SP` plus the signed displacement, in natural numbers (R154). -/
theorem addsp_fst (sp : Word) (e : Byte) :
    (addsp sp e).1 = BitVec.ofNat 16 ((sp.toNat + e.toNat + if 128 ≤ e.toNat then 0xFF00 else 0) % 65536) := by
  apply BitVec.eq_of_toNat_eq
  show (sp + sext16 e).toNat = _
  rw [BitVec.toNat_add, sext16_toNat, BitVec.toNat_ofNat, Nat.mod_mod, Nat.add_assoc]

/-! #### The operations -/

/-- Settles O21: the sum is a number, of which `HL` takes the two bytes. -/
theorem addHlPair : Obligations.AddHlPair := by
  intro s x a b
  refine ⟨encode_mkAddHl x, ?_⟩
  rw [exec_mkAddHl, addHl, State.setFlags_eq, addHl16, State.setHl_ofNat]
  rfl

/-- Settles O22: the pair plus or minus one, as a number. -/
theorem incDecPair : Obligations.IncDecPair := by
  intro s x
  refine ⟨encode_mkIncRp x, encode_mkDecRp x, ?_, ?_⟩
  · rw [exec_mkIncRp, BitVec.add_def]
    rfl
  · rw [exec_mkDecRp, sub_one_eq_ofNat]

/-- Settles O23: both instructions take the result and the flags of `addsp`. -/
theorem stackPointerOffset : Obligations.StackPointerOffset := by
  intro s e sum f
  have hsum : (addsp s.sp e).1 = BitVec.ofNat 16 sum := addsp_fst s.sp e
  have hflags (t : State) : t.setFlags (addsp s.sp e).2 = { t with f := f } := t.setFlags_eq _
  have hadd : exec (.addSpE8 e) s = .next ({ s with sp := (addsp s.sp e).1 }.setFlags (addsp s.sp e).2) := rfl
  have hld : exec (.ldHlSpE8 e) s = .next ((s.setHl (addsp s.sp e).1).setFlags (addsp s.sp e).2) := rfl
  refine ⟨rfl, rfl, ?_, ?_⟩
  · rw [hadd, hflags, hsum]
  · rw [hld, hflags, hsum, State.setHl_ofNat, Nat.mod_mod]

end Sys2Proof.Machine
end

section
/-! ### The rotates, the shifts and the bits in plain numbers (43_rotate_shift_bit.md section 1) -/

namespace Sys2Proof.Machine

/-! #### Shifts as products and quotients -/

/-- Where a shift to the left makes room for a number, the two have no bit in common: their "or" is their sum. -/
theorem shiftLeft_or_toNat (v : Byte) {w : Byte} {n : Nat} (hn : n ≤ 8) (hw : w.toNat < 2 ^ n) :
    (v <<< n ||| w).toNat = 2 ^ n * v.toNat % 256 + w.toNat := by
  have hroom : 2 ^ n * v.toNat % 256 = 2 ^ n * (v.toNat % 2 ^ (8 - n)) := by
    rw [← Nat.mul_mod_mul_left, ← Nat.pow_add, Nat.add_sub_cancel' hn]
  rw [BitVec.toNat_or, BitVec.toNat_shiftLeft, Nat.shiftLeft_eq, Nat.mul_comm, hroom, Nat.two_pow_add_eq_or_of_lt hw]

theorem ushiftRight_toNat (v : Byte) (n : Nat) : (v >>> n).toNat = v.toNat / 2 ^ n := by
  rw [BitVec.toNat_ushiftRight, Nat.shiftRight_eq_div_pow]

theorem shiftLeft_one_toNat (v : Byte) : (v <<< 1).toNat = 2 * v.toNat % 256 := by
  rw [BitVec.toNat_shiftLeft, Nat.shiftLeft_eq, Nat.mul_comm]

/-- A carry shifted in is the bit 0 of a byte. -/
theorem zeroExtend_ofBool_toNat (b : Bool) : ((BitVec.ofBool b).zeroExtend 8).toNat = b.toNat := by cases b <;> rfl

/-- The bit a shift to the left loses. -/
theorem getLsbD_seven (v : Byte) : v.getLsbD 7 = decide (128 ≤ v.toNat) :=
  (BitVec.msb_eq_getLsbD_last v).symm.trans (BitVec.msb_eq_decide v)

/-- The bit a shift to the right loses. -/
theorem getLsbD_zero (v : Byte) : v.getLsbD 0 = (v.toNat % 2 == 1) := Nat.testBit_zero v.toNat

/-! #### The eight functions -/

section
variable (v : Byte) (cin : Bool)

theorem rlc8_toNat : (rlc8 v).1.toNat = 2 * v.toNat % 256 + v.toNat / 128 := by
  have hv := ushiftRight_toNat v 7
  rw [rlc8, shiftLeft_or_toNat v (by decide) (by omega), hv]
  rfl

theorem rrc8_toNat : (rrc8 v).1.toNat = v.toNat / 2 + 128 * (v.toNat % 2) := by
  have hv := ushiftRight_toNat v 1
  rw [rrc8, BitVec.or_comm, shiftLeft_or_toNat v (by decide) (by omega), hv]
  omega

theorem rl8_toNat : (rl8 v cin).1.toNat = 2 * v.toNat % 256 + cin.toNat := by
  have hc := zeroExtend_ofBool_toNat cin
  have hcin := cin.toNat_le
  rw [rl8, shiftLeft_or_toNat v (by decide) (by omega), hc]
  rfl

theorem rr8_toNat : (rr8 v cin).1.toNat = v.toNat / 2 + 128 * cin.toNat := by
  have hv := ushiftRight_toNat v 1
  have hcin := cin.toNat_le
  rw [rr8, BitVec.or_comm, shiftLeft_or_toNat _ (by decide) (by omega), hv, zeroExtend_ofBool_toNat]
  omega

/-- The bit 7 kept is a shift to the right and back. -/
theorem sra8_toNat : (sra8 v).1.toNat = v.toNat / 2 + if 128 ≤ v.toNat then 128 else 0 := by
  have hsign : (sra8 v).1 = v >>> 7 <<< 7 ||| v >>> 1 := by
    rw [BitVec.shiftLeft_ushiftRight, BitVec.or_comm]
    rfl
  have hv := ushiftRight_toNat v 1
  rw [hsign, shiftLeft_or_toNat _ (by decide) (by omega), hv, ushiftRight_toNat]
  split <;> omega

theorem swap8_toNat : (swap8 v).1.toNat = 16 * (v.toNat % 16) + v.toNat / 16 := by
  have hv := ushiftRight_toNat v 4
  rw [swap8, shiftLeft_or_toNat v (by decide) (by omega), hv]
  omega

/-- Each function is what the rules say (R160 to R167). -/
theorem rotFunction_effect (k : Rot) : RotEffect k v cin (rotFunction k v cin).1 (rotFunction k v cin).2 := by
  cases k with
  | rlc => exact ⟨rlc8_toNat v, getLsbD_seven v⟩
  | rrc => exact ⟨rrc8_toNat v, getLsbD_zero v⟩
  | rl => exact ⟨rl8_toNat v cin, getLsbD_seven v⟩
  | rr => exact ⟨rr8_toNat v cin, getLsbD_zero v⟩
  | sla => exact ⟨shiftLeft_one_toNat v, getLsbD_seven v⟩
  | sra => exact ⟨sra8_toNat v, getLsbD_zero v⟩
  | swap => exact ⟨swap8_toNat v, rfl⟩
  | srl => exact ⟨ushiftRight_toNat v 1, getLsbD_zero v⟩

end

/-! #### The functions that undo each other

Rotated one way and then the other, whatever carries go in: `u` and `d` are the last byte and the last bit shifted out. -/

section
variable {v w u : Byte} {cin cmid c d : Bool}

theorem RotEffect.rrc_undoes_rlc (h : RotEffect .rlc v cin w c) (h' : RotEffect .rrc w cmid u d) : u = v := by
  obtain ⟨hw, -⟩ := h
  obtain ⟨hu, -⟩ := h'
  have htop := Nat.mul_mod_mul_left 2 v.toNat 128
  bv_omega

theorem RotEffect.rlc_undoes_rrc (h : RotEffect .rrc v cin w c) (h' : RotEffect .rlc w cmid u d) : u = v := by
  obtain ⟨hw, -⟩ := h
  obtain ⟨hu, -⟩ := h'
  have htop := Nat.mul_mod_mul_left 2 w.toNat 128
  bv_omega

theorem RotEffect.swap_undoes_swap (h : RotEffect .swap v cin w c) (h' : RotEffect .swap w cmid u d) : u = v := by
  obtain ⟨hw, -⟩ := h
  obtain ⟨hu, -⟩ := h'
  bv_omega

theorem bool_eq_of_toNat_eq {x y : Bool} (h : x.toNat = y.toNat) : x = y :=
  Function.LeftInverse.injective Bool.ofNat_toNat h

/-- RL moves the nine bits of the carry and the byte one place up (R162). -/
theorem RotEffect.rl_nine_bits (h : RotEffect .rl v cin w c) : 256 * c.toNat + w.toNat = 2 * v.toNat + cin.toNat := by
  obtain ⟨hw, rfl⟩ := h
  by_cases hv : 128 ≤ v.toNat <;> simp only [hv, decide_true, decide_false, Bool.toNat_true, Bool.toNat_false] <;> omega

/-- RR moves the nine bits of the byte and the carry one place down (R163). -/
theorem RotEffect.rr_nine_bits (h : RotEffect .rr v cin w c) : 2 * w.toNat + c.toNat = 256 * cin.toNat + v.toNat := by
  obtain ⟨hw, rfl⟩ := h
  rcases Nat.mod_two_eq_zero_or_one v.toNat with hv | hv <;> simp [hv] <;> omega

theorem RotEffect.rr_undoes_rl (h : RotEffect .rl v cin w c) (h' : RotEffect .rr w c u d) : u = v ∧ d = cin := by
  have hbits : 2 * u.toNat + d.toNat = 2 * v.toNat + cin.toNat := h'.rr_nine_bits.trans h.rl_nine_bits
  have hcin := cin.toNat_le
  have hd := d.toNat_le
  exact ⟨BitVec.eq_of_toNat_eq (by omega), bool_eq_of_toNat_eq (by omega)⟩

theorem RotEffect.rl_undoes_rr (h : RotEffect .rr v cin w c) (h' : RotEffect .rl w c u d) : u = v ∧ d = cin := by
  have hbits : 256 * d.toNat + u.toNat = 256 * cin.toNat + v.toNat := h'.rl_nine_bits.trans h.rr_nine_bits
  have hv := v.isLt
  have hu := u.isLt
  exact ⟨BitVec.eq_of_toNat_eq (by omega), bool_eq_of_toNat_eq (by omega)⟩

end

/-! #### Bits -/

/-- BIT (R188): the bit is the quotient's parity. -/
theorem bitFlags_toByte (n : Fin 8) (v : Byte) (old : Flags) :
    (bitFlags n v old).toByte = flagByte (v.toNat / 2 ^ n.val % 2 == 0) false true old.c := by
  have hz : (!v.getLsbD n.val) = (v.toNat / 2 ^ n.val % 2 == 0) := by
    rw [BitVec.getLsbD, Nat.testBit_eq_decide_div_mod_eq, ← decide_not, beq_eq_decide, decide_eq_decide]
    omega
  rw [Flags.toByte_eq_flagByte, ← hz]
  rfl

/-- RES clears the bit and keeps the others (R190). -/
theorem getLsbD_resBit (n : Fin 8) (v : Byte) {j : Nat} (hj : j < 8) :
    (resBit n v).getLsbD j = if j = n.val then false else v.getLsbD j := by
  rw [resBit, ← BitVec.twoPow_eq, BitVec.getLsbD_and, BitVec.getLsbD_not, BitVec.getLsbD_twoPow]
  rcases eq_or_ne j n.val with rfl | hne
  · simp
  · simp [hj, hne, hne.symm]

/-- SET sets the bit and keeps the others (R192). -/
theorem getLsbD_setBit (n : Fin 8) (v : Byte) {j : Nat} (hj : j < 8) :
    (setBit n v).getLsbD j = if j = n.val then true else v.getLsbD j := by
  rw [setBit, ← BitVec.twoPow_eq, BitVec.getLsbD_or, BitVec.getLsbD_twoPow]
  rcases eq_or_ne j n.val with rfl | hne
  · simp
  · simp [hne, hne.symm]

theorem resBit_eq_and (n : Fin 8) (v : Byte) : resBit n v = v &&& BitVec.ofNat 8 (255 - 2 ^ n.val) := by
  fin_cases n <;> rfl

theorem setBit_eq_or (n : Fin 8) (v : Byte) : setBit n v = v ||| BitVec.ofNat 8 (2 ^ n.val) := by
  fin_cases n <;> rfl

end Sys2Proof.Machine
end

section
/-! ### O26 to O29: the rotates and the shifts -/

namespace Sys2Proof.Machine

/-! #### The flags they leave -/

theorem rotAccResult_toByte (k : Rot) (v : Byte) (old : Flags) :
    (rotAccResult k v old).2.toByte = flagByte false false false (rotFunction k v old.c).2 := Flags.toByte_eq_flagByte _

theorem rotResult_toByte (k : Rot) (v : Byte) (old : Flags) :
    (rotResult k v old).2.toByte = flagByte ((rotFunction k v old.c).1 == 0) false false (rotFunction k v old.c).2 := by
  rw [Flags.toByte_eq_flagByte, beq_eq_decide]
  rfl

/-- The carry of a flag byte (R12). -/
theorem getLsbD_flagByte_four (z n h c : Bool) : (flagByte z n h c).getLsbD 4 = c := by
  cases z <;> cases n <;> cases h <;> cases c <;> rfl

/-! #### The accumulator -/

theorem modify8_rotAccResult (k : Rot) (s : State) : ∃ a c, RotEffect k s.a s.carry a c ∧
    modify8 (.reg .a) (rotAccResult k) s = .next { s with a := a, f := flagByte false false false c } := by
  refine ⟨_, _, rotFunction_effect s.a s.carry k, ?_⟩
  rw [modify8_reg, rotAccResult_toByte]
  rfl

/-- Settles O26: each is a read-modify-write of `A`. -/
theorem accumulatorRotates : Obligations.AccumulatorRotates := by
  intro s p hp
  simp only [List.mem_cons, List.not_mem_nil, or_false] at hp
  rcases hp with rfl | rfl | rfl | rfl <;> exact ⟨rfl, modify8_rotAccResult _ s⟩

/-! #### The registers and the byte at `HL` -/

/-- Settles O27: each is a read-modify-write of the register, then its timing class. -/
theorem rotateRegister : Obligations.RotateRegister := by
  intro s k r
  refine ⟨encode_mkRot k (.reg r), _, _, rotFunction_effect (s.reg8 r) s.carry k, ?_⟩
  rw [exec_mkRot, cbRot, Operand8.ofLoc, modify8_reg, rotResult_toByte]
  rfl

/-- A timing class after a read-modify-write of the byte at `HL` changes the report alone. -/
theorem Modifies.thenTiming {s : State} {g : Byte → Byte} {after : Byte → State → State} {r : Res State}
    (h : Modifies s g after r) (x : Timing) :
    Modifies s g (fun v u => (after v u).setTiming x) (Machine.thenTiming x r) := by
  obtain ⟨hnext, hstop⟩ := h
  refine ⟨fun ha => ?_, fun ha => (hstop ha).andThen _⟩
  obtain ⟨v, t, u, hr, hw, rfl⟩ := hnext ha
  exact ⟨v, t, u, hr, hw, rfl⟩

/-- Settles O28: each is a read-modify-write of the byte at `HL`, then its timing class. -/
theorem rotateIndirect : Obligations.RotateIndirect := by
  intro s k
  have hmod := (modify8_indHl (rotResult k) s).thenTiming (.extendedCB 16)
  simp only [rotResult_toByte] at hmod
  obtain ⟨hnext, hstop⟩ := hmod
  rw [exec_mkRot]
  refine ⟨encode_mkRot k .indHl, fun h => ?_, hstop⟩
  obtain ⟨v, t, u, hr, hw, he⟩ := hnext h
  exact ⟨v, t, _, _, u, hr, rotFunction_effect v s.carry k, hw, he⟩

/-! #### One after the other -/

/-- What a rotate of a register leaves in the register and in the carry. -/
theorem exec_mkRot_reg (s : State) (k : Rot) (r : Reg8) :
    ∃ t, exec (Instr.mkRot k (.reg r)) s = .next t ∧ RotEffect k (s.reg8 r) s.carry (t.reg8 r) t.carry := by
  obtain ⟨-, v, c, heff, hexec⟩ := rotateRegister s k r
  refine ⟨_, hexec, ?_⟩
  convert heff
  · cases r <;> rfl
  · exact getLsbD_flagByte_four _ _ _ _

/-- Two rotates of a register, one after the other, leave what their effects in turn leave. -/
theorem exec_mkRot_twice (s : State) (r : Reg8) {j k : Rot} {P : Byte → Bool → Prop}
    (h : ∀ {w u c d}, RotEffect j (s.reg8 r) s.carry w c → RotEffect k w c u d → P u d) :
    ∃ t u, exec (Instr.mkRot j (.reg r)) s = .next t ∧ exec (Instr.mkRot k (.reg r)) t = .next u ∧ P (u.reg8 r) u.carry := by
  obtain ⟨t, ht, hj⟩ := exec_mkRot_reg s j r
  obtain ⟨u, hu, hk⟩ := exec_mkRot_reg t k r
  exact ⟨t, u, ht, hu, h hj hk⟩

/-- Settles O29: the effect of each rotate is undone by the effect of the other. -/
theorem rotatesInvert : Obligations.RotatesInvert := fun s r =>
  ⟨exec_mkRot_twice s r (P := fun u _ => u = s.reg8 r) RotEffect.rrc_undoes_rlc,
    exec_mkRot_twice s r (P := fun u _ => u = s.reg8 r) RotEffect.rlc_undoes_rrc,
    exec_mkRot_twice s r (P := fun u _ => u = s.reg8 r) RotEffect.swap_undoes_swap,
    exec_mkRot_twice s r (P := fun u d => u = s.reg8 r ∧ d = s.carry) RotEffect.rr_undoes_rl,
    exec_mkRot_twice s r (P := fun u d => u = s.reg8 r ∧ d = s.carry) RotEffect.rl_undoes_rr⟩

end Sys2Proof.Machine
end

section
/-! ### O30 to O32: the bit instructions -/

namespace Sys2Proof.Machine

/-- The row of `HL` among the rows of a bit number: its index in `r8` is 6 (R83, R92). -/
theorem encode_indHl_of_encode {i : Instr} {base : Nat} (n : Fin 8) (h : encode i = [0xCB, byteOf (base + 8 * n.val + locCode .indHl)]) :
    encode i = [0xCB, byteOf (base + 6 + 8 * n.val)] :=
  encode_eq_of_code_eq h (Nat.add_right_comm base (8 * n.val) 6)

/-! #### BIT -/

/-- BIT after the read of its operand: the flags, then the timing class. -/
theorem setFlags_bitFlags_setTiming (s : State) (n : Fin 8) (v : Byte) (x : Timing) :
    (s.setFlags (bitFlags n v s.flags)).setTiming x =
      { s with f := flagByte (v.toNat / 2 ^ n.val % 2 == 0) false true s.carry, report := .executed x } := by
  rw [State.setFlags, bitFlags_toByte]
  rfl

/-- Settles O30: one read, that of `HL` deciding the outcome, then the flags. -/
theorem bitTest : Obligations.BitTest := by
  intro s n r
  rw [exec_mkBit, exec_mkBit]
  refine ⟨encode_mkBit n (.reg r), encode_indHl_of_encode n (encode_mkBit n .indHl), ?_, fun h => ?_, fun h => ?_⟩
  · exact congrArg Host.Outcome.next (setFlags_bitFlags_setTiming s n (s.reg8 r) (.extendedCB 8))
  · obtain ⟨v, t, hr⟩ := memRead_of_accessible h
    have hc : s.carry = t.carry := by
      rw [memRead_next hr]
      rfl
    refine ⟨v, t, hr, ?_⟩
    rw [hc, ← setFlags_bitFlags_setTiming]
    exact andThen_eq_next.2 ⟨_, andThen_eq_next.2 ⟨_, hr, rfl⟩, rfl⟩
  · exact ((memRead_readStops h).andThen _).andThen _

/-! #### RES and SET -/

/-- Settles O31: RES and SET write the register, and then the timing class. -/
theorem resSetRegister : Obligations.ResSetRegister := by
  intro s n r v
  refine ⟨encode_mkRes n (.reg r), encode_mkSet n (.reg r), resBit n v, setBit n v, fun j hj => getLsbD_resBit n v hj,
    fun j hj => getLsbD_setBit n v hj, ?_, ?_⟩
  · rw [exec_mkRes]
    rfl
  · rw [exec_mkSet]
    rfl

/-- RES and SET of the byte at `HL` are one read and one write of the same address; where the address cannot be accessed, the read
raises (R191, R193). -/
theorem modify8NoFlags_indHl (g : Byte → Byte) (s : State) : Modifies s g (fun _ u => u) (modify8NoFlags .indHl g s) := by
  refine ⟨fun h => ?_, fun h => (memRead_readStops h).andThen _⟩
  obtain ⟨v, t, u, hr, hw, -⟩ := (modify8_indHl (fun v old => (g v, old)) s).1 h
  have hhl : t.hl = s.hl := by
    rw [memRead_next hr]
    rfl
  exact ⟨v, t, u, hr, hw, andThen_eq_next.2 ⟨_, hr, (congrArg (memWrite · (g v) t) hhl).trans hw⟩⟩

/-- Settles O32: both are read-modify-writes of the byte at `HL`, then the timing class. -/
theorem resSetIndirect : Obligations.ResSetIndirect := by
  intro s n
  rw [exec_mkRes, exec_mkSet, ← funext (resBit_eq_and n), ← funext (setBit_eq_or n)]
  exact ⟨encode_indHl_of_encode n (encode_mkRes n .indHl), encode_indHl_of_encode n (encode_mkSet n .indHl),
    (modify8NoFlags_indHl (resBit n) s).thenTiming (.extendedCB 16), (modify8NoFlags_indHl (setBit n) s).thenTiming (.extendedCB 16)⟩

end Sys2Proof.Machine
end

section
/-! ### O33 to O35: the 8-bit loads and stores (44_load8.md) -/

namespace Sys2Proof.Machine

/-! #### The registers -/

/-- Settles O33: neither a register nor an immediate takes an access. -/
theorem loadRegister : Obligations.LoadRegister := by
  intro s r q d
  rw [exec_mkLd (.reg r) (.reg q) (.inl nofun), exec_mkLdImm]
  exact ⟨encode_mkLd (.reg r) (.reg q), encode_mkLdImm (.reg r) d, rfl, rfl⟩

/-! #### The addresses -/

/-- The zero-page address as a number (R64). -/
theorem zeroPage_eq (v : Byte) : zeroPage v = BitVec.ofNat 16 (0xFF00 + v.toNat) := by
  apply BitVec.eq_of_toNat_eq
  have hv := v.isLt
  rw [zeroPage, joinBytes, BitVec.toNat_append, ← Nat.shiftLeft_add_eq_or_of_lt hv, BitVec.toNat_ofNat, Nat.mod_eq_of_lt (by omega)]
  rfl

/-- A read leaves `HL`: a stepping form steps the address it read (R216, R218). -/
theorem memRead_next_hl {s t : State} {addr : Word} {v : Byte} (h : memRead addr s = .next (v, t)) : t.hl = s.hl := by
  rw [memRead_next h]
  rfl

/-- A write leaves `HL`: a stepping form steps the address it wrote (R215, R217). -/
theorem memWrite_next_hl {s t : State} {addr : Word} {v : Byte} (h : memWrite addr v s = .next t) : t.hl = s.hl := by
  rw [memWrite_next h]
  rfl

/-! #### Loads from memory -/

/-- A read, and then lines that cannot raise: the read alone decides whether the load is made. -/
theorem loads_of_memRead {s : State} {addr : Word} {dst : Reg8} {after : State → State} {k : Byte × State → Res State}
    (hk : ∀ v t, memRead addr s = .next (v, t) → k (v, t) = .next (after (t.setReg8 dst v))) :
    Loads s addr dst after (andThen (memRead addr s) k) := by
  refine ⟨fun h => ?_, fun h => (memRead_readStops h).andThen k⟩
  obtain ⟨v, t, hr⟩ := memRead_of_accessible h
  exact ⟨v, t, hr, andThen_eq_next.2 ⟨_, hr, hk v t hr⟩⟩

/-- An operand read at an address and not stepped is loaded from that address. -/
theorem load8_loads {x : Operand8} {addr : Word} {s : State} (dst : Reg8) (hx : readOperand8 x s = memRead addr s) :
    Loads s addr dst id (load8 (.reg dst) x s) := by
  rw [load8, hx]
  exact loads_of_memRead fun _ _ _ => rfl

/-- An operand read at `HL`, which the read then steps, is loaded into `A` from where `HL` was. -/
theorem load8_loads_step {x : Operand8} {s : State} (step : Word → Word)
    (hx : readOperand8 x s = andThen (memRead s.hl s) fun p => .next (p.1, p.2.setHl (step p.2.hl))) :
    Loads s s.hl .a (fun u => u.setHl (step s.hl)) (load8 (.reg .a) x s) := by
  rw [load8, hx, andThen_assoc]
  refine loads_of_memRead fun v t ht => ?_
  rw [← memRead_next_hl ht]
  rfl

/-- Settles O34: each form is one read, of the address of its operand. -/
theorem loadFromMemory : Obligations.LoadFromMemory := by
  intro s r a o
  have hcode : encode (Instr.mkLd (.reg r) .indHl) = [byteOf (0x46 + 8 * locCode (.reg r))] := by
    rw [encode_mkLd, Nat.add_right_comm]
    rfl
  rw [exec_mkLd (.reg r) .indHl (.inl nofun), ← zeroPage_eq, ← zeroPage_eq]
  exact ⟨hcode, rfl, rfl, rfl, rfl, rfl, rfl, rfl, load8_loads r rfl, load8_loads .a rfl, load8_loads .a rfl, load8_loads .a rfl,
    load8_loads .a rfl, load8_loads .a rfl, load8_loads_step (· + 1) rfl, load8_loads_step (· - 1) rfl⟩

/-! #### Stores to memory -/

/-- A write alone decides whether the store is made. -/
theorem memWrite_stores (addr : Word) (v : Byte) (s : State) : Stores s addr v id (memWrite addr v s) := by
  refine ⟨fun h => ?_, fun h => ?_⟩
  · obtain ⟨t, hw⟩ := memWrite_of_accessible v h
    exact ⟨t, hw, hw⟩
  · obtain ⟨e, he⟩ := memWrite_of_not_accessible v h
    exact ⟨e, he, he⟩

/-- An operand written at `HL`, which the write then steps, is stored where `HL` was. -/
theorem memWrite_stores_step (step : Word → Word) (v : Byte) (s : State) :
    Stores s s.hl v (fun u => u.setHl (step s.hl)) (andThen (memWrite s.hl v s) fun t => .next (t.setHl (step t.hl))) := by
  obtain ⟨hnext, hstop⟩ := memWrite_stores s.hl v s
  refine ⟨fun h => ?_, fun h => ?_⟩
  · obtain ⟨t, hw, -⟩ := hnext h
    refine ⟨t, hw, andThen_eq_next.2 ⟨t, hw, ?_⟩⟩
    rw [memWrite_next_hl hw]
  · obtain ⟨e, he, -⟩ := hstop h
    exact ⟨e, he, andThen_eq_fault.2 (.inl he)⟩

/-- Settles O35: the source takes no access, and each form is one write, to the address of its operand. -/
theorem storeToMemory : Obligations.StoreToMemory := by
  intro s r a d o
  rw [exec_mkLd .indHl (.reg r) (.inr nofun), ← zeroPage_eq, ← zeroPage_eq]
  exact ⟨encode_mkLd .indHl (.reg r), rfl, rfl, rfl, rfl, rfl, rfl, rfl, rfl, memWrite_stores _ _ s, memWrite_stores _ _ s,
    memWrite_stores _ _ s, memWrite_stores _ _ s, memWrite_stores _ _ s, memWrite_stores _ _ s, memWrite_stores _ _ s,
    memWrite_stores_step (· + 1) _ s, memWrite_stores_step (· - 1) _ s⟩

end Sys2Proof.Machine
end

section
/-! ### O24, O36, O37: the 16-bit loads and the stack (45_load16_stack.md) -/

namespace Sys2Proof.Machine

/-! #### Pairs -/

/-- A pair of bytes as a number (R13). -/
theorem joinBytes_eq_ofNat (lo hi : Byte) : joinBytes lo hi = BitVec.ofNat 16 (256 * hi.toNat + lo.toNat) := by
  apply BitVec.eq_of_toNat_eq
  have hhi := hi.isLt
  have hlo := lo.isLt
  rw [joinBytes, BitVec.toNat_append, ← Nat.shiftLeft_add_eq_or_of_lt hlo, Nat.shiftLeft_eq, BitVec.toNat_ofNat,
    Nat.mod_eq_of_lt (by omega), Nat.mul_comm]

/-- `BC <- hi:lo` writes the two bytes (R13). -/
theorem State.setBc_joinBytes (s : State) (lo hi : Byte) : s.setBc (joinBytes lo hi) = { s with b := hi, c := lo } := by
  rw [State.setBc, hiByte_joinBytes, loByte_joinBytes]

/-- `DE <- hi:lo` writes the two bytes (R13). -/
theorem State.setDe_joinBytes (s : State) (lo hi : Byte) : s.setDe (joinBytes lo hi) = { s with d := hi, e := lo } := by
  rw [State.setDe, hiByte_joinBytes, loByte_joinBytes]

/-- `HL <- hi:lo` writes the two bytes (R13). -/
theorem State.setHl_joinBytes (s : State) (lo hi : Byte) : s.setHl (joinBytes lo hi) = { s with h := hi, l := lo } := by
  rw [State.setHl, hiByte_joinBytes, loByte_joinBytes]

/-- `AF <- hi:lo` writes the two bytes, of `lo` only the high nibble (R14). -/
theorem State.setAf_joinBytes (s : State) (lo hi : Byte) : s.setAf (joinBytes lo hi) = { s with a := hi, f := lo &&& 0xF0 } := by
  rw [State.setAf, hiByte_joinBytes, loByte_joinBytes]

/-- `LD rr,d16` decodes from its opcode and the two bytes of its word (R89, R230). -/
theorem decode_mkLdRp (x : Rp) (lo hi : Byte) :
    decode [byteOf (0x01 + 16 * rpCode x), lo, hi] = .ok (Instr.mkLdRp x (joinBytes lo hi)) := by
  have hwf : (Instr.mkLdRp x (joinBytes lo hi)).wellFormed = true := by cases x <;> rfl
  have hdec := decode_encode_append (Instr.mkLdRp x (joinBytes lo hi)) hwf []
  rwa [encode_mkLdRp, loByte_joinBytes, hiByte_joinBytes] at hdec

/-- Settles O24: a byte pair takes the two bytes of the word, and `SP` takes it as a number. -/
theorem loadPair : Obligations.LoadPair := by
  intro s x lo hi
  refine ⟨decode_mkLdRp x lo hi, ?_, rfl, ?_⟩
  · rw [exec_mkLdRp]
    cases x
    case bc => exact congrArg _ (s.setBc_joinBytes lo hi)
    case de => exact congrArg _ (s.setDe_joinBytes lo hi)
    case hl => exact congrArg _ (s.setHl_joinBytes lo hi)
    case sp => rw [State.setRp, joinBytes_eq_ofNat]
  · rw [← joinBytes_eq_ofNat]
    rfl

/-! #### The stack -/

/-- Settles O36: a push of a pair is a push of its word. -/
theorem pushStores : Obligations.PushStores := by
  intro s x
  refine ⟨encode_mkPush x, fun h => ?_, fun h => ?_⟩
  · obtain ⟨u, hu, hpushed⟩ := push16_of_canPush (s.rp2 x) h
    exact ⟨u, hpushed, (exec_mkPush x s).trans hu⟩
  · obtain ⟨e, hstops, he⟩ := push16_stops (s.rp2 x) h
    exact ⟨e, hstops, (exec_mkPush x s).trans he⟩

/-- A pop into a pair that does not go through is the Fatal of the pop: the pair is written after both reads (R235, R236). -/
theorem popPair_stops (r : Rp2) {s : State} (h : s.canPop = false) : ∃ e, PopStops s e ∧ popPair r s = .fault e := by
  obtain ⟨e, hstops, he⟩ := pop16_stops h
  exact ⟨e, hstops, andThen_eq_fault.2 (.inl he)⟩

/-- Settles O37: a pop that goes through writes the two bytes to the pair, and one that raises keeps the registers by its frame. -/
theorem popLoads : Obligations.PopLoads := by
  intro s x
  refine ⟨encode_mkPop x, fun h => ?_, fun h => ?_⟩
  · obtain ⟨lo, hi, u, -, hpop⟩ := pop16_of_canPop h
    refine ⟨lo, hi, u, hpop, ?_⟩
    rw [exec_mkPop, popPair_of_popped hpop]
    cases x
    case bc => exact congrArg _ (u.setBc_joinBytes lo hi)
    case de => exact congrArg _ (u.setDe_joinBytes lo hi)
    case hl => exact congrArg _ (u.setHl_joinBytes lo hi)
    case af => exact congrArg _ (u.setAf_joinBytes lo hi)
  · obtain ⟨e, hstops, he⟩ := popPair_stops x h
    refine ⟨e, hstops, (exec_mkPop x s).trans he, fun r => ?_, ?_⟩
    · rw [hstops.frame]
      rfl
    · rw [hstops.frame]

end Sys2Proof.Machine
end

section
/-! ### O39 to O43, O54: control transfer (46_control.md) -/

namespace Sys2Proof.Machine

/-! #### The shared transfers -/

/-- The Bool a condition code tests is the one the instructions test (R240). -/
theorem State.holds_eq_cond (s : State) (cc : Cond) : s.holds cc = s.cond cc := by
  cases cc
  case nz => exact beq_false s.zero
  case z => exact beq_true s.zero
  case nc => exact beq_false s.carry
  case c => exact beq_true s.carry

/-- A conditional transfer that is taken is the transfer, then its timing class (R252). -/
theorem whenCond_of_holds {cc : Cond} {s : State} (h : s.holds cc = true) (f : State → Res State) :
    whenCond cc f s = thenTiming .conditionalTaken (f s) :=
  if_pos (s.holds_eq_cond cc ▸ h)

/-- A conditional transfer that is not taken does nothing (R252). -/
theorem whenCond_of_not_holds {cc : Cond} {s : State} (h : s.holds cc = false) (f : State → Res State) : whenCond cc f s = .next s :=
  if_neg (Bool.eq_false_iff.1 (s.holds_eq_cond cc ▸ h))

/-- A conditional transfer that is taken and answers a state has the timing class of one taken. -/
theorem whenCond_next_of_holds {cc : Cond} {s t : State} {f : State → Res State} (h : s.holds cc = true) (hf : f s = .next t) :
    whenCond cc f s = .next (t.setTiming .conditionalTaken) := by
  rw [whenCond_of_holds h, hf]
  rfl

/-- A conditional transfer that is taken and raises is the transfer's own Fatal. -/
theorem whenCond_fault_of_holds {cc : Cond} {s : State} {f : State → Res State} {e : Fault} (h : s.holds cc = true)
    (hf : f s = .fault e) : whenCond cc f s = .fault e := by
  rw [whenCond_of_holds h, hf]
  rfl

/-- Where the transfer answers a state, the condition chooses between it and doing nothing. -/
theorem whenCond_of_next {cc : Cond} {s t : State} {f : State → Res State} (hf : f s = .next t) :
    whenCond cc f s = .next (if s.holds cc = true then t.setTiming .conditionalTaken else s) := by
  cases h : s.holds cc with
  | true => exact whenCond_next_of_holds h hf
  | false => exact whenCond_of_not_holds h f

/-- A relative jump adds the displacement as a number (R244). -/
theorem jumpBy_eq (e : Byte) (s : State) :
    jumpBy e s = .next { s with pc := BitVec.ofNat 16 (s.pc.toNat + e.toNat + if 128 ≤ e.toNat then 0xFF00 else 0) } := by
  rw [jumpBy, BitVec.add_def, sext16_toNat, Nat.add_assoc]

/-- A call whose push goes through is at its target (R246). -/
theorem callTo_of_pushed {s u : State} (h : Pushed s.pc s u) (a : Word) : callTo a s = .next { u with pc := a } :=
  andThen_eq_next.2 ⟨u, push16_next.2 h, rfl⟩

/-- A call whose push raises is that Fatal, whatever the target (R246, R277). -/
theorem callTo_stops {s : State} (h : s.canPush = false) : ∃ e, PushStops s.pc s e ∧ ∀ a, callTo a s = .fault e := by
  obtain ⟨e, hstops, he⟩ := push16_stops s.pc h
  exact ⟨e, hstops, fun _ => andThen_eq_fault.2 (.inl he)⟩

/-- A return whose pop goes through is at the popped address (R248). -/
theorem returnTo_of_popped {s u : State} {lo hi : Byte} (h : Popped lo hi s u) :
    returnTo s = .next { u with pc := joinBytes lo hi } :=
  andThen_eq_next.2 ⟨_, pop16_next.2 ⟨lo, hi, rfl, h⟩, rfl⟩

/-- RETI whose pop goes through is at the popped address with IME set (R250). -/
theorem returnFromInterrupt_of_popped {s u : State} {lo hi : Byte} (h : Popped lo hi s u) :
    returnFromInterrupt s = .next { u with pc := joinBytes lo hi, ime := true } :=
  andThen_eq_next.2 ⟨_, pop16_next.2 ⟨lo, hi, rfl, h⟩, rfl⟩

/-! #### O41, O42, O43: calls and returns -/

/-- Settles O41: CALL and RST are calls, and the push of `pc` decides the outcome. -/
theorem callAndRst : Obligations.CallAndRst := by
  intro s a y
  have hcall : exec (.callA16 a) s = callTo a s := rfl
  rw [hcall, exec_mkRst]
  refine ⟨rfl, encode_mkRst y, fun h => ?_, fun h => ?_⟩
  · obtain ⟨u, -, hu⟩ := push16_of_canPush s.pc h
    exact ⟨u, hu, callTo_of_pushed hu _, callTo_of_pushed hu _⟩
  · obtain ⟨e, hstops, he⟩ := callTo_stops h
    exact ⟨e, hstops, he _, he _, hstops.pc⟩

/-- Settles O42: the condition decides whether the call is made, and the push of `pc` how it ends. -/
theorem conditionalCall : Obligations.ConditionalCall := by
  intro s cc a
  rw [exec_mkCallCc]
  refine ⟨encode_mkCallCc cc a, fun hc h => ?_, fun hc h => ?_, fun hc => whenCond_of_not_holds hc _⟩
  · obtain ⟨u, -, hu⟩ := push16_of_canPush s.pc h
    exact ⟨u, hu, whenCond_next_of_holds hc (callTo_of_pushed hu a)⟩
  · obtain ⟨e, hstops, he⟩ := callTo_stops h
    exact ⟨e, hstops, whenCond_fault_of_holds hc (he a), hstops.pc⟩

/-- Settles O43: RET, RETI and a taken RET cc share one pop, which decides the outcome. -/
theorem returns : Obligations.Returns := by
  intro s cc
  have hret : exec .ret s = returnTo s := rfl
  have hreti : exec .reti s = returnFromInterrupt s := rfl
  rw [hret, hreti, exec_mkRetCc]
  refine ⟨rfl, rfl, encode_mkRetCc cc, fun h => ?_, fun h => ?_, fun hc => whenCond_of_not_holds hc _⟩
  · obtain ⟨lo, hi, u, -, hpop⟩ := pop16_of_canPop h
    have hnext := returnTo_of_popped hpop
    exact ⟨lo, hi, u, hpop, hnext, returnFromInterrupt_of_popped hpop, fun hc => whenCond_next_of_holds hc hnext⟩
  · obtain ⟨e, hstops, he⟩ := pop16_stops h
    have hfault : returnTo s = .fault e := andThen_eq_fault.2 (.inl he)
    exact ⟨e, hstops, hfault, andThen_eq_fault.2 (.inl he), fun hc => whenCond_fault_of_holds hc hfault⟩

/-! #### O54: RETI after a dispatch -/

/-- A push has one outcome. -/
theorem Pushed.unique {v : Word} {s t u : State} (ht : Pushed v s t) (hu : Pushed v s u) : t = u :=
  Host.Outcome.next.inj ((push16_next.2 ht).symm.trans (push16_next.2 hu))

/-- A push that goes through has accessible cells. -/
theorem Pushed.canPush {v : Word} {s u : State} (h : Pushed v s u) : s.canPush = true := by
  by_contra hc
  obtain ⟨e, -, he⟩ := push16_stops v (Bool.eq_false_iff.2 hc)
  exact nomatch (push16_next.2 h).symm.trans he

/-- A read depends on neither `pc` nor the report, and leaves both. -/
theorem memRead_setPcReport {addr : Word} {v : Byte} {s t : State} (h : memRead addr s = .next (v, t)) (p : Word) (r : Report) :
    memRead addr { s with pc := p, report := r } = .next (v, { t with pc := p, report := r }) := by
  unfold memRead at h ⊢
  split at h
  case h_2 =>
    unfold handlerRead at h ⊢
    split at h
    · cases h
      exact if_pos ‹_›
    · exact absurd h (raise_ne_next _ _ _)
  case h_7 => exact absurd h (raise_ne_next _ _ _)
  all_goals (cases h; rfl)

/-- A pop depends on neither `pc` nor the report, and leaves both. -/
theorem Popped.setPcReport {lo hi : Byte} {s u : State} (h : Popped lo hi s u) (p : Word) (r : Report) :
    Popped lo hi { s with pc := p, report := r } { u with pc := p, report := r } := by
  obtain ⟨t, w, ht, hw, rfl⟩ := h
  exact ⟨_, _, memRead_setPcReport ht p r, memRead_setPcReport hw p r, rfl⟩

theorem State.raiseEnvironment_sp (s : State) : s.raiseEnvironment.sp = s.sp := by rw [s.raiseEnvironment_frame]

/-- Settles O54: the dispatch is that of O49, and RETI pops from the two cells the `pc` that the dispatch pushed there. -/
theorem dispatchThenReti : Obligations.DispatchThenReti := by
  intro s n k₁ k₂ hrun s₀ hime hn hlt h₁ h₂ s₁
  obtain ⟨hgo, -⟩ := dispatchEntersHandler s n hrun hime hn hlt
  have hpc : s₁.pc = s.pc := s.raiseEnvironment_pc
  have hsp : s₁.sp = s.sp := s.raiseEnvironment_sp
  rw [← hsp] at h₁ h₂ ⊢
  obtain ⟨m, hpush, hpop⟩ := popped_of_pushed_ram (s := { s₁ with ime := false }) s.pc h₁ h₂
  obtain ⟨u, hu, hstep⟩ := hgo hpush.canPush
  obtain rfl := hu.unique hpush
  have hreti := returnFromInterrupt_of_popped (hpop.setPcReport (BitVec.ofNat 16 (0x40 + 8 * n.val)) (.interruptDispatch n))
  refine ⟨_, _, hstep, hreti, ?_, ?_⟩
  · rw [joinBytes_lo_hi, ← hpc, ← hime]
  · have hf : Frames { sp := true } [s₁.sp - 1, s₁.sp - 2] { s₁ with ime := false } _ :=
      hpush.frames rfl List.mem_cons_self (List.mem_cons_of_mem _ (List.mem_singleton_self _))
    exact hf.bytes

/-! #### O39, O40: jumps -/

/-- Settles O39: `pc` takes the target, which for JR is the displaced address as a number. -/
theorem jumps : Obligations.Jumps := fun s _ e => ⟨rfl, rfl, rfl, rfl, rfl, jumpBy_eq e s⟩

/-- Settles O40: the jump under a condition. -/
theorem conditionalJumps : Obligations.ConditionalJumps := by
  intro s cc a e
  rw [exec_mkJpCc, exec_mkJrCc]
  exact ⟨encode_mkJpCc cc a, encode_mkJrCc cc e, whenCond_of_next (f := jumpTo a) rfl, whenCond_of_next (jumpBy_eq e s)⟩

end Sys2Proof.Machine
end

section
/-! ### O44 to O47: system instructions (47_system.md) -/

namespace Sys2Proof.Machine

/-! #### NOP, HALT, DI, EI -/

/-- Settles O44: the byte and the meaning of each row compute. -/
theorem nopHaltDi : Obligations.NopHaltDi := fun _ => ⟨rfl, rfl, rfl, rfl, rfl, rfl⟩

/-- Settles O45: `EI_DELAYED` is data of the state, and the meaning of the row tests it as the statement does. -/
theorem enableInterrupts : Obligations.EnableInterrupts := fun _ => ⟨rfl, rfl⟩

/-! #### STOP and the unassigned bytes -/

/-- An unassigned row is its byte alone, and raises for that byte (R266). -/
theorem exec_of_not_assigned {i : Instr} (h : i.assigned = false) :
    ∃ b, encode i = [b] ∧ ∀ s, exec i s = raise (.invalidOpcode b (s.pc - 1) s.sp) s := by
  unfold Instr.assigned at h
  split at h
  case h_12 => cases h
  all_goals exact ⟨_, rfl, fun _ => rfl⟩

/-- Settles O46: each meaning is a raise, which reports its cause and changes nothing else. -/
theorem stopAndUnassignedStop : Obligations.StopAndUnassignedStop := by
  intro s
  refine ⟨raise_reports (.stopNotModelled (s.pc - 1)) s, fun i hi => ?_⟩
  obtain ⟨b, hb, hexec⟩ := exec_of_not_assigned hi
  obtain ⟨e, he⟩ := raise_reports (α := State) (.invalidOpcode b (s.pc - 1) s.sp) s
  rw [hexec]
  exact ⟨b, e, hb, he⟩

/-! #### The prefix -/

/-- A CB row of a register answers a state: there is no access to raise (R172 to R193). -/
theorem exec_prefixed_reg {op2 : Byte} {r : Reg8} (h : locOf (fieldZ op2) = .reg r) (s : State) :
    ∃ u, exec (prefixed op2) s = .next u := by
  unfold prefixed
  rw [h]
  split
  · obtain ⟨-, v, c, -, hrot⟩ := rotateRegister s (rotOf (fieldY op2)) r
    exact ⟨_, hrot⟩
  · obtain ⟨-, -, hbit, -⟩ := bitTest s (fieldY op2) r
    exact ⟨_, hbit⟩
  · obtain ⟨-, -, x, y, -, -, hres, -⟩ := resSetRegister s (fieldY op2) r
    exact ⟨_, hres⟩
  · obtain ⟨-, -, x, y, -, -, -, hset⟩ := resSetRegister s (fieldY op2) r
    exact ⟨_, hset⟩

/-- A CB row of the byte at `HL` answers a state where `HL` can be accessed (R173 to R193). -/
theorem exec_prefixed_indHl {op2 : Byte} {s : State} (h : locOf (fieldZ op2) = .indHl) (hl : s.accessible s.hl = true) :
    ∃ u, exec (prefixed op2) s = .next u := by
  unfold prefixed
  rw [h]
  split
  · obtain ⟨-, hnext, -⟩ := rotateIndirect s (rotOf (fieldY op2))
    obtain ⟨v, t, w, c, u, -, -, -, hrot⟩ := hnext hl
    exact ⟨_, hrot⟩
  · obtain ⟨-, -, -, hnext, -⟩ := bitTest s (fieldY op2) .a
    obtain ⟨v, t, -, hbit⟩ := hnext hl
    exact ⟨_, hbit⟩
  · obtain ⟨-, -, ⟨hnext, -⟩, -⟩ := resSetIndirect s (fieldY op2)
    obtain ⟨v, t, u, -, -, hres⟩ := hnext hl
    exact ⟨_, hres⟩
  · obtain ⟨-, -, -, hnext, -⟩ := resSetIndirect s (fieldY op2)
    obtain ⟨v, t, u, -, -, hset⟩ := hnext hl
    exact ⟨_, hset⟩

/-- The byte at `HL` is the operand of index 6 (R83). -/
theorem fieldZ_of_indHl {op2 : Byte} (h : locOf (fieldZ op2) = .indHl) : op2.toNat % 8 = 6 := by
  have hz : (fieldZ op2).val = op2.toNat % 8 := by simp [fieldZ]
  rw [← hz, ← locCode_locOf, h]
  rfl

/-- A CB row answers a state where its second byte selects a register or `HL` can be accessed. -/
theorem exec_prefixed_next {op2 : Byte} {s : State} (h : op2.toNat % 8 ≠ 6 ∨ s.accessible s.hl = true) :
    ∃ u, exec (prefixed op2) s = .next u := by
  cases hx : locOf (fieldZ op2) with
  | reg r => exact exec_prefixed_reg hx s
  | indHl => exact exec_prefixed_indHl hx (h.resolve_left (not_not_intro (fieldZ_of_indHl hx)))

/-- Settles O47: the fetch of the second byte, which decides whether the row is run, then the CB row of that byte. -/
theorem prefixRunsCbEntry : Obligations.PrefixRunsCbEntry := by
  intro s
  obtain ⟨hnext, hstop, -⟩ := fetchByte s
  rw [exec_prefixCb]
  refine ⟨fun h => ?_, fun h => (hstop h).andThen _⟩
  obtain ⟨op2, t, hr, hf⟩ := hnext h
  have hhl : t.hl = s.hl := memRead_next_hl hr
  have hp : t.platform = s.platform := by rw [memRead_next hr]
  rw [hf]
  refine ⟨op2, t, prefixed op2, hr, encode_prefixed op2, rfl, fun hx => exec_prefixed_next (hx.imp_right fun ha => ?_)⟩
  rw [← hhl] at ha
  exact (State.accessible_congr hp _).trans ha

end Sys2Proof.Machine
end

section
/-! ### O50, O52, O53: the outcomes of a step (60_exceptions.md) -/

namespace Sys2Proof.Machine

/-! #### The halted core -/

theorem cycle_of_idle {s : State} (hd : s.wake.toDispatch = none) (hh : s.wake.halted = true) :
    cycle s = .next { s.wake with report := .haltIdle } := by
  unfold cycle
  dsimp only
  rw [hd, hh]
  rfl

/-- A cycle goes on from the state after the wake alone (R270, R283). -/
theorem cycle_congr {s t : State} (h : s.wake = t.wake) : cycle s = cycle t := by
  unfold cycle
  dsimp only
  rw [h]

/-- The environment neither reads nor changes `halted` (R74). -/
theorem State.raiseEnvironment_setHalted (s : State) (b : Bool) :
    ({ s with halted := b } : State).raiseEnvironment = { s.raiseEnvironment with halted := b } := by
  unfold State.raiseEnvironment
  dsimp only
  split <;> rfl

/-- A wake with a candidate forgets `halted` (R283). -/
theorem State.wake_setHalted {s : State} (h : s.pend ≠ 0) (b : Bool) : ({ s with halted := b } : State).wake = s.wake :=
  (if_neg h).trans (if_neg h).symm

/-- Settles O50: with no candidate the wake changes nothing and the cycle idles; with one the wake forgets `halted`. -/
theorem haltIdlesAndWakes : Obligations.HaltIdlesAndWakes := by
  intro s hrun s₀
  constructor
  · intro hhalt hpend
    have hwake : s₀.wake = s₀ := State.wake_of_pend_zero hpend
    have hdisp : s₀.wake.toDispatch = none := by
      rw [hwake]
      exact State.toDispatch_eq_none fun h => h.2 hpend
    rw [step_of_running hrun, cycle_of_idle hdisp (hwake.symm ▸ hhalt), hwake]
  · intro hpend
    have hrun' : ({ s with halted := false } : State).status = .running := hrun
    rw [step_of_running hrun, step_of_running hrun', s.raiseEnvironment_setHalted false]
    exact cycle_congr (State.wake_setHalted hpend false).symm

/-! #### The Fatals of an access -/

/-- A running core on the platform. -/
structure RunsOn (p : Platform) (s : State) : Prop where
  platform : s.platform = p
  status : s.status = .running

/-- The Fatals that an access raises, where each is true (R273, R274). -/
inductive AccessFatal (p : Platform) : Fatal → Prop where
  | notImplemented {g : Region} {addr : Word} (x : Access) (hr : route addr = .collaborator g) (hh : p.handlers.contains g = false) :
      AccessFatal p (.notImplemented g addr x)
  | addressOutOfRange {addr : Word} (hr : route addr = .outOfRange) : AccessFatal p (.addressOutOfRange addr)

/-- The Fatal of an access, which `status` holds (R271). -/
structure AccessFault (p : Platform) (e : Fault) : Prop where
  status : e.left.status = .faulted e.cause
  fatal : AccessFatal p e.cause

/-- The answer is a value with `Q` or a fault with `K`, and no refusal. -/
inductive Answers {α : Type} (K : Fault → Prop) (Q : α → Prop) : Res α → Prop where
  | next {x : α} (h : Q x) : Answers K Q (.next x)
  | fault {e : Fault} (h : K e) : Answers K Q (.fault e)

/-- The answer is a running core on the platform, or the Fatal of an access. -/
abbrev Accesses (p : Platform) (r : Res State) : Prop := Answers (AccessFault p) (RunsOn p) r

/-- The answer is a value and a running core on the platform, or the Fatal of an access. -/
abbrev ValueAccesses {α : Type} (p : Platform) (r : Res (α × State)) : Prop := Answers (AccessFault p) (fun x => RunsOn p x.2) r

/-- A line whose value has `Q`, then a line that answers from every such value. -/
theorem Answers.andThen {α β : Type} {K : Fault → Prop} {Q : α → Prop} {R : β → Prop} {r : Res α} {k : α → Res β}
    (h : Answers K Q r) (hk : ∀ x, Q x → Answers K R (k x)) : Answers K R (Machine.andThen r k) := by
  cases h with
  | next h => exact hk _ h
  | fault h => exact .fault h

/-- A weaker claim on the Fatals. -/
theorem Answers.mono {α : Type} {K L : Fault → Prop} {Q : α → Prop} {r : Res α} (h : Answers K Q r) (hKL : ∀ e, K e → L e) :
    Answers L Q r := by
  cases h with
  | next h => exact .next h
  | fault h => exact .fault (hKL _ h)

section
variable {α : Type} {K : Fault → Prop} {Q : α → Prop} {r : Res α}

theorem Answers.of_next {x : α} (h : Answers K Q r) (hr : r = .next x) : Q x := by
  cases hr
  cases h
  assumption

theorem Answers.of_fault {e : Fault} (h : Answers K Q r) (hr : r = .fault e) : K e := by
  cases hr
  cases h
  assumption

theorem Answers.ne_refused (h : Answers K Q r) (x : Refusal) : r ≠ .refused x := by
  rintro rfl
  cases h

/-- The value that is answered is the one the claim speaks of. -/
theorem Answers.with_eq (h : Answers K Q r) : Answers K (fun x => Q x ∧ r = .next x) r := by
  cases h with
  | next h => exact .next ⟨h, rfl⟩
  | fault h => exact .fault h

end

/-- A raise leaves its own cause in `status` (R271). -/
theorem raise_status {α : Type} {c : Fatal} {s : State} {e : Fault} (h : (raise c s : Res α) = .fault e) :
    e.left.status = .faulted e.cause := by
  obtain ⟨hc, hl⟩ := raise_eq_fault h
  rw [hl, hc]

theorem raise_answers {α : Type} {p : Platform} {Q : α → Prop} {c : Fatal} (h : AccessFatal p c) (s : State) :
    Answers (AccessFault p) Q (raise c s) :=
  .fault ⟨raise_status (α := α) rfl, by rwa [faultOf_cause]⟩

section
variable {p : Platform} {s : State}

/-! #### Accesses, fetches and the stack -/

theorem memRead_accesses (addr : Word) (hs : RunsOn p s) : ValueAccesses p (memRead addr s) := by
  unfold memRead
  split
  case h_2 g hg =>
    unfold handlerRead
    split
    next => exact .next ⟨hs.platform, hs.status⟩
    next hn => exact raise_answers (.notImplemented .read hg (hs.platform ▸ Bool.eq_false_iff.2 hn)) s
  case h_7 hr => exact raise_answers (.addressOutOfRange hr) s
  all_goals exact .next ⟨hs.platform, hs.status⟩

theorem RunsOn.captureWrite (hs : RunsOn p s) (g : Region) (v : Byte) : RunsOn p (s.captureWrite g v) :=
  ⟨(s.captureWrite_platform g v).trans hs.platform, (s.captureWrite_status g v).trans hs.status⟩

theorem memWrite_accesses (addr : Word) (v : Byte) (hs : RunsOn p s) : Accesses p (memWrite addr v s) := by
  unfold memWrite
  split
  case h_2 g hg =>
    have hc := hs.captureWrite g v
    unfold handlerWrite
    split
    next => exact .next ⟨hc.platform, hc.status⟩
    next hn => exact raise_answers (.notImplemented (.write v) hg (hc.platform ▸ Bool.eq_false_iff.2 hn)) _
  case h_7 hr => exact raise_answers (.addressOutOfRange hr) s
  all_goals exact .next ⟨hs.platform, hs.status⟩

theorem memWrite16_accesses (addr v : Word) (hs : RunsOn p s) : Accesses p (memWrite16 addr v s) :=
  (memWrite_accesses addr _ hs).andThen fun _ => memWrite_accesses _ _

theorem fetch8_accesses (hs : RunsOn p s) : ValueAccesses p (fetch8 s) :=
  (memRead_accesses s.pc hs).andThen fun _ ht => .next ⟨ht.platform, ht.status⟩

theorem fetch16_accesses (hs : RunsOn p s) : ValueAccesses p (fetch16 s) :=
  (fetch8_accesses hs).andThen fun _ ht => (fetch8_accesses ht).andThen fun _ hu => .next hu

theorem pushByte_accesses (v : Byte) (hs : RunsOn p s) : Accesses p (pushByte v s) :=
  memWrite_accesses _ v ⟨hs.platform, hs.status⟩

theorem push16_accesses (v : Word) (hs : RunsOn p s) : Accesses p (push16 v s) :=
  (pushByte_accesses _ hs).andThen fun _ => pushByte_accesses _

theorem popByte_accesses (hs : RunsOn p s) : ValueAccesses p (popByte s) :=
  (memRead_accesses s.sp hs).andThen fun _ ht => .next ⟨ht.platform, ht.status⟩

theorem pop16_accesses (hs : RunsOn p s) : ValueAccesses p (pop16 s) :=
  (popByte_accesses hs).andThen fun _ ht => (popByte_accesses ht).andThen fun _ hu => .next hu

/-! #### The shapes of the instructions -/

theorem RunsOn.setReg8 (hs : RunsOn p s) (r : Reg8) (v : Byte) : RunsOn p (s.setReg8 r v) :=
  ⟨(s.setReg8_platform r v).trans hs.platform, (s.setReg8_status r v).trans hs.status⟩

theorem RunsOn.setRp (hs : RunsOn p s) (r : Rp) (v : Word) : RunsOn p (s.setRp r v) :=
  ⟨(s.setRp_platform r v).trans hs.platform, (s.setRp_status r v).trans hs.status⟩

theorem RunsOn.setRp2 (hs : RunsOn p s) (r : Rp2) (v : Word) : RunsOn p (s.setRp2 r v) :=
  ⟨(s.setRp2_platform r v).trans hs.platform, (s.setRp2_status r v).trans hs.status⟩

theorem readOperand8_accesses (x : Operand8) (hs : RunsOn p s) : ValueAccesses p (readOperand8 x s) := by
  cases x
  case reg | imm => exact .next hs
  case indHlInc | indHlDec => exact (memRead_accesses s.hl hs).andThen fun _ ht => .next ⟨ht.platform, ht.status⟩
  all_goals exact memRead_accesses _ hs

/-- The operand has the capability to be written: it is no immediate (R39). -/
def Operand8.Writable (x : Operand8) : Prop :=
  match x with
  | .imm _ => False
  | .reg _ | .indBc | .indDe | .indHl | .indHlInc | .indHlDec | .indAddr _ | .zeroPageC | .zeroPageImm _ => True

/-- An `r8` operand can be written (R83). -/
theorem Operand8.ofLoc_writable (x : Loc) : (Operand8.ofLoc x).Writable := by cases x <;> trivial

theorem writeOperand8_accesses {x : Operand8} (hx : x.Writable) (v : Byte) (hs : RunsOn p s) : Accesses p (writeOperand8 x v s) := by
  cases x
  case reg r => exact .next (hs.setReg8 r v)
  case imm => exact hx.elim
  case indHlInc | indHlDec => exact (memWrite_accesses s.hl v hs).andThen fun _ ht => .next ⟨ht.platform, ht.status⟩
  all_goals exact memWrite_accesses _ v hs

theorem load8_accesses {dst : Operand8} (src : Operand8) (hd : dst.Writable) (hs : RunsOn p s) : Accesses p (load8 dst src s) :=
  (readOperand8_accesses src hs).andThen fun x => writeOperand8_accesses hd x.1

theorem alu8_accesses (k : Alu) (src : Operand8) (hs : RunsOn p s) : Accesses p (alu8 k src s) :=
  (readOperand8_accesses src hs).andThen fun _ ht => .next ⟨ht.platform, ht.status⟩

theorem modify8_accesses (x : Loc) (g : Byte → Flags → Byte × Flags) (hs : RunsOn p s) : Accesses p (modify8 (.ofLoc x) g s) :=
  (readOperand8_accesses _ hs).andThen fun _ ht =>
  (writeOperand8_accesses (Operand8.ofLoc_writable x) _ ht).andThen fun _ hu => .next ⟨hu.platform, hu.status⟩

theorem modify8NoFlags_accesses (x : Loc) (g : Byte → Byte) (hs : RunsOn p s) : Accesses p (modify8NoFlags (.ofLoc x) g s) :=
  (readOperand8_accesses _ hs).andThen fun _ => writeOperand8_accesses (Operand8.ofLoc_writable x) _

theorem thenTiming_accesses {r : Res State} (h : Accesses p r) (t : Timing) : Accesses p (thenTiming t r) :=
  h.andThen fun _ ht => .next ⟨ht.platform, ht.status⟩

theorem cbBit_accesses (n : Fin 8) (x : Loc) (hs : RunsOn p s) : Accesses p (cbBit n x s) := by
  refine thenTiming_accesses ((readOperand8_accesses (.ofLoc x) hs).andThen fun _ ht => ?_) _
  exact .next ⟨ht.platform, ht.status⟩

theorem popPair_accesses (r : Rp2) (hs : RunsOn p s) : Accesses p (popPair r s) :=
  (pop16_accesses hs).andThen fun _ ht => .next (ht.setRp2 r _)

theorem jumpTo_accesses (a : Word) (hs : RunsOn p s) : Accesses p (jumpTo a s) := .next ⟨hs.platform, hs.status⟩

theorem jumpBy_accesses (e : Byte) (hs : RunsOn p s) : Accesses p (jumpBy e s) := .next ⟨hs.platform, hs.status⟩

theorem callTo_accesses (a : Word) (hs : RunsOn p s) : Accesses p (callTo a s) :=
  (push16_accesses s.pc hs).andThen fun _ ht => .next ⟨ht.platform, ht.status⟩

theorem returnTo_accesses (hs : RunsOn p s) : Accesses p (returnTo s) :=
  (pop16_accesses hs).andThen fun _ ht => .next ⟨ht.platform, ht.status⟩

theorem returnFromInterrupt_accesses (hs : RunsOn p s) : Accesses p (returnFromInterrupt s) :=
  (pop16_accesses hs).andThen fun _ ht => .next ⟨ht.platform, ht.status⟩

theorem whenCond_accesses {f : State → Res State} (cc : Cond) (hf : Accesses p (f s)) (hs : RunsOn p s) : Accesses p (whenCond cc f s) := by
  unfold whenCond
  split
  · exact thenTiming_accesses hf _
  · exact .next hs

theorem execEi_accesses (hs : RunsOn p s) : Accesses p (execEi s) := by
  refine .next ?_
  split <;> exact ⟨hs.platform, hs.status⟩

/-! #### Instructions -/

/-- An assigned row other than STOP and the byte 0xCB raises for its accesses alone. -/
theorem exec_row_accesses {i : Instr} (hi : i ≠ .prefixCb) (ha : i.assigned = true) (hstop : i ≠ .stop) (hs : RunsOn p s) :
    Accesses p (exec i s) := by
  cases Instr.inTable hi with
  | nop => exact .next hs
  | stop => exact absurd rfl hstop
  | illegalD3 | illegalDB | illegalDD | illegalE3 | illegalE4 | illegalEB | illegalEC | illegalED | illegalF4 | illegalFC | illegalFD =>
    cases ha
  | di | scf | ccf | cpl | addSpE8 | ldHlSpE8 | ldSpHl => exact .next ⟨hs.platform, hs.status⟩
  | ei => exact execEi_accesses hs
  | ldRp r d => rw [exec_mkLdRp]; exact .next (hs.setRp r d)
  | incRp r => rw [exec_mkIncRp]; exact .next (hs.setRp r _)
  | decRp r => rw [exec_mkDecRp]; exact .next (hs.setRp r _)
  | addHl r => rw [exec_mkAddHl]; exact .next ⟨hs.platform, hs.status⟩
  | ld x y =>
    by_cases hxy : x ≠ .indHl ∨ y ≠ .indHl
    · rw [exec_mkLd x y hxy]; exact load8_accesses _ (Operand8.ofLoc_writable x) hs
    · obtain ⟨rfl, rfl⟩ : x = .indHl ∧ y = .indHl := by simpa using hxy
      exact .next ⟨hs.platform, hs.status⟩
  | ldImm x d => rw [exec_mkLdImm]; exact load8_accesses _ (Operand8.ofLoc_writable x) hs
  | ldAIndBc | ldAIndDe | ldAIndHlInc | ldAIndHlDec | ldAIndC | ldhAIndA8 | ldAIndA16 =>
    exact load8_accesses (dst := .reg .a) _ trivial hs
  | ldIndBcA => exact load8_accesses (dst := .indBc) (.reg .a) trivial hs
  | ldIndDeA => exact load8_accesses (dst := .indDe) (.reg .a) trivial hs
  | ldIndHlIncA => exact load8_accesses (dst := .indHlInc) (.reg .a) trivial hs
  | ldIndHlDecA => exact load8_accesses (dst := .indHlDec) (.reg .a) trivial hs
  | ldIndCA => exact load8_accesses (dst := .zeroPageC) (.reg .a) trivial hs
  | ldhIndA8A o => exact load8_accesses (dst := .zeroPageImm o) (.reg .a) trivial hs
  | ldIndA16A a => exact load8_accesses (dst := .indAddr a) (.reg .a) trivial hs
  | ldIndA16Sp a => exact memWrite16_accesses a s.sp hs
  | alu k x => rw [exec_mkAlu]; exact alu8_accesses k _ hs
  | aluImm k d => rw [exec_mkAluImm]; exact alu8_accesses k _ hs
  | inc x => rw [exec_mkInc]; exact modify8_accesses x _ hs
  | dec x => rw [exec_mkDec]; exact modify8_accesses x _ hs
  | rlca | rrca | rla | rra | daa => exact modify8_accesses (.reg .a) _ hs
  | rot k x => rw [exec_mkRot]; exact thenTiming_accesses (modify8_accesses x _ hs) _
  | bit n x => rw [exec_mkBit]; exact cbBit_accesses n x hs
  | res n x => rw [exec_mkRes]; exact thenTiming_accesses (modify8NoFlags_accesses x _ hs) _
  | set n x => rw [exec_mkSet]; exact thenTiming_accesses (modify8NoFlags_accesses x _ hs) _
  | push r => rw [exec_mkPush]; exact push16_accesses _ hs
  | pop r => rw [exec_mkPop]; exact popPair_accesses r hs
  | jpA16 a => exact jumpTo_accesses a hs
  | jpHl => exact jumpTo_accesses _ hs
  | jrE8 e => exact jumpBy_accesses e hs
  | callA16 a => exact callTo_accesses a hs
  | rst y => rw [exec_mkRst]; exact callTo_accesses _ hs
  | ret => exact returnTo_accesses hs
  | reti => exact returnFromInterrupt_accesses hs
  | jpCc cc a => rw [exec_mkJpCc]; exact whenCond_accesses cc (jumpTo_accesses a hs) hs
  | jrCc cc e => rw [exec_mkJrCc]; exact whenCond_accesses cc (jumpBy_accesses e hs) hs
  | callCc cc a => rw [exec_mkCallCc]; exact whenCond_accesses cc (callTo_accesses a hs) hs
  | retCc cc => rw [exec_mkRetCc]; exact whenCond_accesses cc (returnTo_accesses hs) hs

/-- No entry of the CB table is STOP or an unassigned byte: each encodes to 0xCB and its own byte (R92, R93). -/
theorem prefixed_assigned_ne_stop (op2 : Byte) : (prefixed op2).assigned = true ∧ prefixed op2 ≠ .stop := by
  have he := encode_prefixed op2
  constructor
  · by_contra hn
    obtain ⟨b, -, hb⟩ := encode_of_not_assigned (Bool.eq_false_iff.2 hn)
    rw [hb] at he
    cases he
  · intro h
    rw [h] at he
    cases he

/-- An assigned instruction other than STOP raises for its accesses alone. -/
theorem exec_accesses {i : Instr} (ha : i.assigned = true) (hstop : i ≠ .stop) (hs : RunsOn p s) : Accesses p (exec i s) := by
  by_cases hi : i = .prefixCb
  · rw [hi, exec_prefixCb]
    refine (fetch8_accesses hs).andThen fun x ht => ?_
    obtain ⟨hassigned, hne⟩ := prefixed_assigned_ne_stop x.1
    exact exec_row_accesses (prefixed_ne_prefixCb x.1) hassigned hne ht
  · exact exec_row_accesses hi ha hstop hs

/-! #### The step -/

/-- The Fatals that an opcode byte at `pc` raises (R272, R276). -/
inductive OpcodeFatal (pc sp : Word) : Fatal → Prop where
  | invalidOpcode {b : Byte} (hb : b ∈ unassignedBytes) : OpcodeFatal pc sp (.invalidOpcode b pc sp)
  | stopNotModelled : OpcodeFatal pc sp (.stopNotModelled pc)

/-- A Fatal that a step from `s` raises: of an access, or of the byte at `pc`, which leaves `pc` one past it (R271 to R277). -/
structure StepFault (s : State) (e : Fault) : Prop where
  status : e.left.status = .faulted e.cause
  fatal : AccessFatal s.platform e.cause ∨ (OpcodeFatal s.pc s.sp e.cause ∧ e.left.pc = s.pc + 1)

/-- The answer is a running core on the platform of `s`, or a Fatal that is true of a step from `s`. -/
abbrev StepAnswers (s : State) (r : Res State) : Prop := Answers (StepFault s) (RunsOn s.platform) r

/-- The Fatal of an access is true of any step on the platform. -/
theorem Answers.stepAnswers {α : Type} {Q : α → Prop} {r : Res α} (h : Answers (AccessFault s.platform) Q r) : Answers (StepFault s) Q r :=
  h.mono fun _ he => ⟨he.status, .inl he.fatal⟩

/-- A running core on the platform of `s` with its `pc` and `sp`: what the actions at the boundary make of `s` (R270). -/
structure SameStart (s t : State) : Prop extends RunsOn s.platform t where
  pc : t.pc = s.pc
  sp : t.sp = s.sp

variable {t : State}

theorem SameStart.raiseEnvironment (h : SameStart s t) : SameStart s t.raiseEnvironment := by
  rw [t.raiseEnvironment_frame]
  exact ⟨⟨h.platform, h.status⟩, h.pc, h.sp⟩

theorem SameStart.wake (h : SameStart s t) : SameStart s t.wake := by
  rw [t.wake_frame]
  exact ⟨⟨h.platform, h.status⟩, h.pc, h.sp⟩

theorem SameStart.applyPendingEi (h : SameStart s t) : SameStart s t.applyPendingEi := by
  unfold State.applyPendingEi
  split
  · exact ⟨⟨h.platform, h.status⟩, h.pc, h.sp⟩
  · exact h

theorem dispatchInterrupt_accesses (n : Fin 5) (hs : RunsOn p s) : Accesses p (dispatchInterrupt n s) := by
  have hack : RunsOn p (s.acknowledged n) := ⟨hs.platform, hs.status⟩
  rw [dispatchInterrupt_eq]
  exact (push16_accesses s.pc hack).andThen fun _ ht => .next ⟨ht.platform, ht.status⟩

theorem fetchInstr_accesses (hs : RunsOn p s) : ValueAccesses p (fetchInstr s) := by
  refine (fetch8_accesses hs).andThen fun x ht => ?_
  dsimp only
  split
  · exact .next ht
  · exact (fetch8_accesses ht).andThen fun _ hu => .next hu
  · exact (fetch16_accesses ht).andThen fun _ hu => .next hu
  · exact (fetch8_accesses ht).andThen fun _ hu => .next hu

/-- The fetch of an instruction moves `pc` past the bytes that it fetches (R61, R89). -/
theorem fetchInstr_pc {i : Instr} (h : fetchInstr s = .next (i, t)) : t.pc = s.pc + BitVec.ofNat 16 (fetchedBytes i) := by
  obtain ⟨⟨op, u⟩, hu, h⟩ := andThen_eq_next.1 h
  have hrow := unprefixed_fetched op
  have hpc : u.pc = s.pc + 1 := by rw [fetch8_next hu]
  dsimp only at h
  split at h
  case h_1 hi =>
    cases h
    rw [hi] at hrow
    rw [hrow, hpc]
    rfl
  case h_2 hf =>
    obtain ⟨⟨d, w⟩, hw, h⟩ := andThen_eq_next.1 h
    cases h
    rw [hf] at hrow
    rw [hrow d, fetch8_next hw, hpc, BitVec.add_assoc]
    rfl
  case h_3 hf =>
    obtain ⟨⟨d, w⟩, hw, h⟩ := andThen_eq_next.1 h
    cases h
    rw [hf] at hrow
    rw [hrow d, fetch16_next hw, hpc, BitVec.add_assoc]
    rfl
  case h_4 =>
    obtain ⟨⟨op2, w⟩, hw, h⟩ := andThen_eq_next.1 h
    cases h
    rw [fetchedBytes_prefixed, fetch8_next hw, hpc, BitVec.add_assoc]
    rfl

/-- An unassigned byte is an instruction of that byte alone, and raises for it (R93, R266). -/
theorem unassigned_row {i : Instr} (h : i.assigned = false) :
    fetchedBytes i = 1 ∧ ∃ b ∈ unassignedBytes, ∀ s, exec i s = raise (.invalidOpcode b (s.pc - 1) s.sp) s := by
  obtain ⟨b, hb, hexec⟩ := exec_of_not_assigned h
  obtain ⟨b', hmem, hb'⟩ := encode_of_not_assigned h
  have hne : i ≠ .stop := by
    rintro rfl
    cases h
  obtain rfl : b = b' := by simpa [hb] using hb'
  exact ⟨by rw [fetchedBytes_of_ne_stop hne, hb]; rfl, b, hmem, hexec⟩

/-- A raise for the byte just fetched is true of the step (R272, R276). -/
theorem raise_opcode_answers {c : Fatal} (hc : OpcodeFatal (t.pc - 1) t.sp c) (hpc : t.pc = s.pc + 1) (hsp : t.sp = s.sp) :
    StepAnswers s (raise c t) := by
  refine .fault ⟨raise_status (α := State) rfl, .inr ⟨?_, ?_⟩⟩
  · rw [hpc, BitVec.add_sub_cancel, hsp] at hc
    rwa [faultOf_cause]
  · rwa [faultOf_left]

/-- An instruction, once fetched, raises for its accesses or for its own byte. -/
theorem exec_answers {i : Instr} (ht : RunsOn s.platform t) (hpc : t.pc = s.pc + BitVec.ofNat 16 (fetchedBytes i)) (hsp : t.sp = s.sp) :
    StepAnswers s (exec i t) := by
  cases ha : i.assigned with
  | false =>
    obtain ⟨hone, b, hb, hexec⟩ := unassigned_row ha
    rw [hone] at hpc
    rw [hexec]
    exact raise_opcode_answers (.invalidOpcode hb) hpc hsp
  | true =>
    by_cases hi : i = .stop
    · cases hi
      exact raise_opcode_answers .stopNotModelled hpc hsp
    · exact (exec_accesses ha hi ht).stepAnswers

theorem runInstr_answers (h : SameStart s t) : StepAnswers s (runInstr t) := by
  have hfetch := (fetchInstr_accesses h.toRunsOn).with_eq.stepAnswers
  refine hfetch.andThen fun x ⟨hu, hf⟩ => ?_
  have hpc : x.2.pc = s.pc + BitVec.ofNat 16 (fetchedBytes x.1) := h.pc ▸ fetchInstr_pc hf
  have hsp : x.2.sp = s.sp := by rw [fetchInstr_next hf, h.sp]
  exact exec_answers ⟨hu.platform, hu.status⟩ hpc hsp

/-- A cycle is a dispatch, an idle step or one instruction (R270): each answers a running core, or raises a Fatal that is true of it. -/
theorem cycle_answers (h : SameStart s t) : StepAnswers s (cycle t) := by
  have hwake := h.wake
  cases hd : t.wake.toDispatch with
  | some n =>
    rw [cycle_of_toDispatch hd]
    exact (dispatchInterrupt_accesses n hwake.toRunsOn).stepAnswers
  | none =>
    cases hh : t.wake.halted with
    | true =>
      rw [cycle_of_idle hd hh]
      exact .next ⟨hwake.platform, hwake.status⟩
    | false =>
      rw [cycle_of_run hd hh]
      exact runInstr_answers hwake.applyPendingEi

theorem step_answers (h : s.status = .running) : StepAnswers s (step s) := by
  rw [step_of_running h]
  have hs : SameStart s s := ⟨⟨rfl, h⟩, rfl, rfl⟩
  exact cycle_answers hs.raiseEnvironment

theorem step_of_faulted {c : Fatal} (h : s.status = .faulted c) : step s = .refused (.notRunning c) := by
  unfold step stepOf
  rw [h]

/-- A step that raises was taken by a running core (R277). -/
theorem step_fault_running {e : Fault} (h : step s = .fault e) : s.status = .running := by
  cases hs : s.status with
  | running => rfl
  | faulted c => exact absurd ((step_of_faulted hs).symm.trans h) nofun

end

/-! #### O52, O53: the outcomes -/

/-- Settles O52: a running core's step answers a running core or raises with the Fatal in `status`, and a faulted core takes none. -/
theorem stepOutcomes : Obligations.StepOutcomes :=
  ⟨fun _ _ h => ((step_answers (step_next_running h).1).of_next h).status,
    fun _ _ h => ((step_answers (step_fault_running h)).of_fault h).status,
    fun _ _ => step_of_faulted,
    fun _ h => (step_answers h).ne_refused⟩

/-- Settles O53: a step raises for an access or for its opcode byte, with true information either way. -/
theorem fatalKinds : Obligations.FatalKinds := by
  intro s e h
  obtain ⟨-, hfatal⟩ := (step_answers (step_fault_running h)).of_fault h
  generalize e.cause = c at hfatal
  obtain ha | ⟨ho, hpc⟩ := hfatal
  · cases ha with
    | notImplemented x hr hh => exact ⟨hr, hh⟩
    | addressOutOfRange hr => exact hr
  · cases ho with
    | invalidOpcode hb => exact ⟨hb, hpc, rfl, rfl⟩
    | stopNotModelled => exact ⟨rfl, hpc⟩

end Sys2Proof.Machine
end
